-- ==== Sys2Proof/Word.lean ====
section
/-! DEFINITION. The word types of the chip. Widths are those of 00_scope.md section 6 (R15). -/

namespace Sys2Proof

/-- A command word of the transport encoding, 32 bits (30_encoding.md R101). -/
abbrev Word := BitVec 32

/-- `u8`: an offset, a bus value, an envelope counter. -/
abbrev Byte := BitVec 8

/-- `s32`: a value of the analog or resampler arithmetic. Addition, subtraction and multiplication of
`BitVec 32` are `wrap32` of the integer operation, which is what R15 asks of every binary operation. -/
abbrev S32 := BitVec 32

/-- `s16`: an audio sample. -/
abbrev S16 := BitVec 16

end Sys2Proof
end

