-- ==== Sys2Proof/Syntax.lean ====
section
/-! DEFINITION. The operations of the chip: one constructor per row of spec/opcode_table.json (30_encoding.md R100, R106),
with the operand types of the operation level, which is the normative one (R100, R101). -/

namespace Sys2Proof

/-- A host's frequency operand: a real number (here a rational: every floating-point number is one) or something that is
not finite (47_resampler.md R340 line 1). -/
inductive HostReal where
  | finite (q : Rat)
  | nonFinite
  deriving DecidableEq, Repr

/-- The four sample-rate-conversion strategies (47_resampler.md R340, R355). -/
inductive Strategy where
  | fast
  | interpolate
  | resampleInterpolate
  | resampleFast
  deriving DecidableEq, Repr

/-- SAMPLING's `passbandHz` operand: a real, or `auto` (R340, R341). -/
inductive Passband where
  | auto
  | hz (q : Rat)
  deriving DecidableEq, Repr

/-- The record of SAMPLING's five operands (R340). -/
structure SamplingArgs where
  chipClockHz : HostReal
  strategy : Strategy
  outputSampleHz : HostReal
  passbandHz : Passband
  filterScale : Rat
  deriving DecidableEq, Repr

/-- The record of zeros that goes with a bare SAMPLING word (assumption log entry 4). -/
def SamplingArgs.blank : SamplingArgs :=
  { chipClockHz := .finite 0, strategy := .fast, outputSampleHz := .finite 0, passbandHz := .auto, filterScale := 0 }

/-- One point of CALIB's operand list, before any check (44_filter.md R264). -/
structure CalibPoint where
  controlValue : HostReal
  frequencyHz : HostReal
  deriving DecidableEq, Repr

/-- An operation of the chip. -/
inductive Instr where
  /-- WR FREQ_LO_0 (R140). -/
  | wrFreqLo0 (value : Byte)
  /-- WR FREQ_HI_0 (R141). -/
  | wrFreqHi0 (value : Byte)
  /-- WR PW_LO_0 (R142). -/
  | wrPwLo0 (value : Byte)
  /-- WR PW_HI_0 (R143). -/
  | wrPwHi0 (value : Byte)
  /-- WR CONTROL_0 (R144, R190). -/
  | wrControl0 (value : Byte)
  /-- WR ATTACK_DECAY_0 (R191). -/
  | wrAttackDecay0 (value : Byte)
  /-- WR SUSTAIN_RELEASE_0 (R192). -/
  | wrSustainRelease0 (value : Byte)
  /-- WR FREQ_LO_1 (R140). -/
  | wrFreqLo1 (value : Byte)
  /-- WR FREQ_HI_1 (R141). -/
  | wrFreqHi1 (value : Byte)
  /-- WR PW_LO_1 (R142). -/
  | wrPwLo1 (value : Byte)
  /-- WR PW_HI_1 (R143). -/
  | wrPwHi1 (value : Byte)
  /-- WR CONTROL_1 (R144, R190). -/
  | wrControl1 (value : Byte)
  /-- WR ATTACK_DECAY_1 (R191). -/
  | wrAttackDecay1 (value : Byte)
  /-- WR SUSTAIN_RELEASE_1 (R192). -/
  | wrSustainRelease1 (value : Byte)
  /-- WR FREQ_LO_2 (R140). -/
  | wrFreqLo2 (value : Byte)
  /-- WR FREQ_HI_2 (R141). -/
  | wrFreqHi2 (value : Byte)
  /-- WR PW_LO_2 (R142). -/
  | wrPwLo2 (value : Byte)
  /-- WR PW_HI_2 (R143). -/
  | wrPwHi2 (value : Byte)
  /-- WR CONTROL_2 (R144, R190). -/
  | wrControl2 (value : Byte)
  /-- WR ATTACK_DECAY_2 (R191). -/
  | wrAttackDecay2 (value : Byte)
  /-- WR SUSTAIN_RELEASE_2 (R192). -/
  | wrSustainRelease2 (value : Byte)
  /-- WR FC_LO (R240). -/
  | wrFcLo (value : Byte)
  /-- WR FC_HI (R241). -/
  | wrFcHi (value : Byte)
  /-- WR RES_FILT (R242). -/
  | wrResFilt (value : Byte)
  /-- WR MODE_VOL (R243). -/
  | wrModeVol (value : Byte)
  /-- WR of an offset in 0x19 to 0x19, where no writable register stands (R291, R38). -/
  | wrUnmapped1919 (value : Byte)
  /-- WR of an offset in 0x1A to 0x1B, where no writable register stands (R291, R38). -/
  | wrUnmapped1A1B (offsetLow : BitVec 1) (value : Byte)
  /-- WR of an offset in 0x1C to 0x1F, where no writable register stands (R291, R38). -/
  | wrUnmapped1C1F (offsetLow : BitVec 2) (value : Byte)
  /-- WR of an offset in 0x20 to 0x3F, where no writable register stands (R291, R38). -/
  | wrUnmapped203F (offsetLow : BitVec 5) (value : Byte)
  /-- WR of an offset in 0x40 to 0x7F, where no writable register stands (R291, R38). -/
  | wrUnmapped407F (offsetLow : BitVec 6) (value : Byte)
  /-- WR of an offset in 0x80 to 0xFF, where no writable register stands (R291, R38). -/
  | wrUnmapped80FF (offsetLow : BitVec 7) (value : Byte)
  /-- RD POTX (R296). -/
  | rdPotx
  /-- RD POTY (R296). -/
  | rdPoty
  /-- RD OSC3 (R297). -/
  | rdOsc3
  /-- RD ENV3 (R298). -/
  | rdEnv3
  /-- RD of an offset in 0x00 to 0x0F, which reads the bus value (R299). -/
  | rdBus000F (offsetLow : BitVec 4)
  /-- RD of an offset in 0x10 to 0x17, which reads the bus value (R299). -/
  | rdBus1017 (offsetLow : BitVec 3)
  /-- RD of an offset in 0x18 to 0x18, which reads the bus value (R299). -/
  | rdBus1818
  /-- RD of an offset in 0x1D to 0x1D, which reads the bus value (R299). -/
  | rdBus1D1D
  /-- RD of an offset in 0x1E to 0x1F, which reads the bus value (R299). -/
  | rdBus1E1F (offsetLow : BitVec 1)
  /-- RD of an offset in 0x20 to 0x3F, which reads the bus value (R299). -/
  | rdBus203F (offsetLow : BitVec 5)
  /-- RD of an offset in 0x40 to 0x7F, which reads the bus value (R299). -/
  | rdBus407F (offsetLow : BitVec 6)
  /-- RD of an offset in 0x80 to 0xFF, which reads the bus value (R299). -/
  | rdBus80FF (offsetLow : BitVec 7)
  /-- CLK, one chip cycle (R300). -/
  | clk
  /-- CLKN, `delta` cycles at once (R303). The operation takes any non-negative integer; a word carries 16 bits (R101). -/
  | clkn (delta : Nat)
  /-- RST (R305). -/
  | rst
  /-- EXTIN (R310). -/
  | extin (sample : S16)
  /-- OUT, the raw output (R312). -/
  | out
  /-- RENDER (R355). A word carries 16 bits of `delta` and 12 of `maxSamples` (R101). -/
  | render (delta maxSamples : Nat)
  /-- MODEL (R313). Any integer is an operand; a word carries 16 bits (R101). -/
  | model (number : Int)
  /-- MUTE of voice 0 (R314). -/
  | muteV0 (flag : Bool)
  /-- MUTE of voice 1 (R314). -/
  | muteV1 (flag : Bool)
  /-- MUTE of voice 2 (R314). -/
  | muteV2 (flag : Bool)
  /-- EXTEN (R315). -/
  | exten (flag : Bool)
  /-- SAMPLING (R340); its operands travel beside the word as a record (R101). -/
  | sampling (args : SamplingArgs)
  /-- CALIB (R264); its point list travels beside the word (R101). -/
  | calib (points : List CalibPoint)
  deriving DecidableEq, Repr

/-- One element of the host's operation stream: a command word with the two out-of-band operands of R101
(only a SAMPLING word looks at `record`, only a CALIB word at `points`). -/
structure Command where
  word : Word
  record : SamplingArgs := SamplingArgs.blank
  points : List CalibPoint := []
  deriving DecidableEq, Repr

end Sys2Proof
end

