-- ==== Sys2Proof/Config.lean ====
section
/-! DEFINITION. What one implementation fixes: the configuration record `Cfg` of 00_scope.md R12, and the free values, which are
opaque constants without a body. The default values of `Cfg` are in Machine/Tables.lean. -/

namespace Sys2Proof

/-- The two chip models (R2). -/
inductive ChipModel where
  | m6581
  | m8580
  deriving DecidableEq, Repr

/-- A value for each chip model: a table indexed `[m]` in the spec. -/
structure PerModel (α : Type) where
  m6581 : α
  m8580 : α
  deriving DecidableEq, Repr

/-- The voice index v = 0, 1, 2 (92_eei_decisions.md D7). -/
inductive VoiceIdx where
  | v0
  | v1
  | v2
  deriving DecidableEq, Repr

/-- One value for each of the three voices. -/
structure PerVoice (α : Type) where
  v0 : α
  v1 : α
  v2 : α
  deriving DecidableEq, Repr

/-- `FILTER_ORDER` (R12, R253). -/
inductive FilterOrder where
  | doc
  | reference
  deriving DecidableEq, Repr

/-- `EXTF_HP_TRACKS` (R12, R281). -/
inductive HpTracks where
  | lowpass
  | input
  deriving DecidableEq, Repr

/-- The configuration record of R12. It holds the parameters whose value no source prints and the readings the spec leaves OPEN; what
DOC itself fixes (the sync ring, the accumulator and LFSR geometry, the sustain and exponential tables, the bus window, the
potentiometer value) is a constant of the model. No operation writes it. -/
structure Cfg where
  /-- `LFSR_RESEED`: the LFSR after a falling edge of `test` (R173). -/
  lfsrReseed : BitVec 23
  /-- `LFSR_RESET`: the LFSR after RST (R305). -/
  lfsrReset : BitVec 23
  /-- `LFSR_TEST_RISE`: what a rising edge of `test` writes into the LFSR, if anything (R172). -/
  lfsrTestRise : Option (BitVec 23)
  /-- `NOISE_TAP[k]`: the LFSR bit that feeds output bit 4 + k (R175). -/
  noiseTap : Vector (Fin 23) 8
  /-- `WAVE_ZERO[m]` (R230). -/
  waveZero : PerModel S32
  /-- `VOICE_DC[m]` (R230). -/
  voiceDC : PerModel S32
  /-- `RATE_PERIOD[n]` (R203); every entry is in 1..0x7FFF. -/
  ratePeriod : Vector (BitVec 15) 16
  /-- `RATE_WRAP_TO` (R194). -/
  rateWrapTo : Fin 2
  /-- `W0_SCALE` (R245). R12 types it as a real; a rational is the model's choice (DESIGN CHOICE, assumption log entry 25). -/
  w0Scale : Rat
  /-- `W0_MAX_1`, the ceiling of CLK (R245). -/
  w0Max1 : S32
  /-- `W0_MAX_DT`, the ceiling of CLKN (R245). -/
  w0MaxDt : S32
  /-- `FILT_BULK_STEP` (R255). -/
  filtBulkStep : Nat
  /-- `INV_Q[r]` (R246). -/
  invQ : Vector S32 16
  /-- `FILTER_ORDER` (R253). -/
  filterOrder : FilterOrder
  /-- `MIXER_DC[m]` (R258). -/
  mixerDC : PerModel S32
  /-- `EXTF_W0LP` (R280). -/
  extfW0LP : S32
  /-- `EXTF_W0HP` (R280). -/
  extfW0HP : S32
  /-- `EXTF_HP_TRACKS` (R281). -/
  extfHpTracks : HpTracks
  /-- `EXTF_DC[m]` (R280). -/
  extfDC : PerModel S32
  /-- `EXTF_BULK_STEP` (R284). -/
  extfBulkStep : Nat
  /-- `EXTIN_SCALE`, a function from samples to s32 (R12, R310), as plain data: the samples at which it differs from `(sample * 16) * 3`,
  in rising order, each with its value there; every function from s16 to s32 is one such list (assumption log entry 19). -/
  extinScale : List (S16 × S32)
  /-- `OUT_DIVISOR`, a positive integer (R312). -/
  outDivisor : Nat
  /-- `FIR_N` (R340). -/
  firN : Nat
  /-- `FIR_RES_INTERPOLATE` (R347). -/
  firResInterpolate : Nat
  /-- `FIR_RES_FAST` (R347). -/
  firResFast : Nat
  /-- `FIR_SHIFT` (R347, R352). -/
  firShift : Nat
  /-- `RINGSIZE` (R340, R354). -/
  ringSize : Nat
  /-- `SAMPLING_CHECKS_ALL` (R340). -/
  samplingChecksAll : Bool
  /-- `RENDER_KEEPS_REMAINDER` (R355). -/
  renderKeepsRemainder : Bool
  /-- `FILTER_SCALE_DEFAULT`, used by the script notation only (R340, R107). R12 types it as a real; a rational is the model's choice (DESIGN
  CHOICE, assumption log entry 25). -/
  filterScaleDefault : Rat
  /-- `PATCHED_NOISE`: true is refused (R176). -/
  patchedNoise : Bool
  /-- `PATCHED_FILTER`: true is refused (R266). -/
  patchedFilter : Bool
  deriving DecidableEq, Repr

/-- The arguments SAMPLING builds the FIR tables from (R340 line 12, R347). -/
structure FirDesign where
  chipClockHz : Rat
  outputSampleHz : Rat
  passbandHz : Rat
  filterScale : Rat
  strategy : Strategy
  /-- `FIR_SHIFT` at the time of the design. -/
  shift : Nat
  deriving DecidableEq, Repr

/-! ## Free values. Nothing in Lean can evaluate one; a statement that mentions one holds for every value of it. -/

/-- `WAVE_ST[m]`, no contents in any source (R155, R13, 93 U3; assumption log entry 2). -/
opaque Config.waveST : ChipModel → BitVec 12 → Byte

/-- `WAVE_PT[m]` (R155, R13, 93 U3; assumption log entry 2). -/
opaque Config.wavePT : ChipModel → BitVec 12 → Byte

/-- `WAVE_PS[m]` (R155, R13, 93 U3; assumption log entry 2). -/
opaque Config.wavePS : ChipModel → BitVec 12 → Byte

/-- `WAVE_PST[m]` (R155, R13, 93 U3; assumption log entry 2). -/
opaque Config.wavePST : ChipModel → BitVec 12 → Byte

/-- `CUTOFF_F0[m][c]` where no calibration piece covers c: any non-negative integer, fixed for the life of the calibration, which
is named by its install number (R262, 93 U4; assumption log entry 5). -/
opaque Config.cutoffUncovered : (install : Nat) → ChipModel → (c : Nat) → Nat

/-- By how much an entry of the FIR tables differs from the value of the real-number formula: one less, equal, or one more
(0, 1, 2), because two conforming constructions "can differ in the last unit of isolated entries" (R347; assumption log entry 6). -/
opaque Config.firDeviation : FirDesign → (t : Int) → (j : Nat) → Fin 3

/-- An entry of the FIR tables that R347 gives no value for: an index outside the tables, or a filter of length one, whose
half-length is 0 (assumption log entry 6). -/
opaque Config.firUnstated : FirDesign → (t : Int) → (j : Nat) → S16

end Sys2Proof
end

