-- ==== Sys2Proof/WellFormed.lean ====
section
/-! DEFINITION. Which operations a command word can carry (30_encoding.md R101), and which configuration records meet the
constraints of 00_scope.md R12. -/

namespace Sys2Proof

/-- The operands fit the fields of the command word (R101). Every other operand fits by its type. -/
def Instr.wf : Instr → Bool
  | .clkn delta => decide (delta < 65536)
  | .render delta maxSamples => decide (delta < 65536) && decide (maxSamples < 4096)
  | .model number => decide (0 ≤ number) && decide (number < 65536)
  | _ => true

/-- The canonical form of `EXTIN_SCALE`: samples strictly rising (as unsigned numbers), no listed value equal to the default (log entry 19). -/
def extinScaleWf (table : List (S16 × S32)) : Bool :=
  decide (table.Pairwise (fun p q => p.1.toNat < q.1.toNat)) && table.all (fun p => p.2 != p.1.signExtend 32 * 16 * 3)

/-- The constraints of R12's column "type / constraint" that the types of `Cfg` do not already say, and `PATCHED_NOISE` and
`PATCHED_FILTER` false (R176, R266). -/
def Cfg.wf (c : Cfg) : Bool :=
  c.ratePeriod.toList.all (fun p => p != 0) &&
  decide (0 < c.filtBulkStep) &&
  decide (0 < c.extfBulkStep) &&
  extinScaleWf c.extinScale &&
  decide (0 < c.outDivisor) &&
  decide (0 < c.ringSize) &&
  decide (9 / 10 ≤ c.filterScaleDefault) && decide (c.filterScaleDefault ≤ 1) &&
  !c.patchedNoise &&
  !c.patchedFilter

end Sys2Proof
end

