-- ==== Sys2Proof/Decode.lean ====
section
/-! DEFINITION. Decoding a command word into an operation (30_encoding.md R101, R102, R103, R106), total on every word and rejecting by
name, and the encoder of the same layout. -/

namespace Sys2Proof

/-- Why a word is `invalid` (R101, R105, R106). -/
inductive DecodeError where
  /-- The class is 0xD, 0xE or 0xF. -/
  | reservedClass
  /-- A field stated as "0" is not 0. -/
  | nonzeroField
  /-- MUTE of voice 3. -/
  | muteVoiceThree
  deriving DecidableEq, Repr

/-! ## Fields of a word (R101) -/

/-- `class` = bits [31:28]. -/
def wordClass (w : Word) : BitVec 4 := w.extractLsb' 28 4

/-- `arg2` = bits [27:16]. -/
def wordArg2 (w : Word) : BitVec 12 := w.extractLsb' 16 12

/-- `arg1` = bits [15:0]. -/
def wordArg1 (w : Word) : BitVec 16 := w.extractLsb' 0 16

/-- The upper byte of `arg1`: a WR's or RD's offset. -/
def argHi (a : BitVec 16) : Byte := a.extractLsb' 8 8

/-- The lower byte of `arg1`: a WR's value. -/
def argLo (a : BitVec 16) : Byte := a.extractLsb' 0 8

/-- A word from its three fields. -/
def word (cls : BitVec 4) (arg2 : BitVec 12) (arg1 : BitVec 16) : Word := cls ++ arg2 ++ arg1

/-- A word that brings no out-of-band operand. -/
def Command.plain (w : Word) : Command := { word := w }

/-! ## Decoding -/

/-- The WR operation of an offset and a value (R102): the registers of the three voices, the four filter registers, and the
unmapped offsets in the blocks of the opcode table. -/
def decodeWr (offset value : Byte) : Instr :=
  match offset.toNat with
  | 0x00 => .wrFreqLo0 value
  | 0x01 => .wrFreqHi0 value
  | 0x02 => .wrPwLo0 value
  | 0x03 => .wrPwHi0 value
  | 0x04 => .wrControl0 value
  | 0x05 => .wrAttackDecay0 value
  | 0x06 => .wrSustainRelease0 value
  | 0x07 => .wrFreqLo1 value
  | 0x08 => .wrFreqHi1 value
  | 0x09 => .wrPwLo1 value
  | 0x0A => .wrPwHi1 value
  | 0x0B => .wrControl1 value
  | 0x0C => .wrAttackDecay1 value
  | 0x0D => .wrSustainRelease1 value
  | 0x0E => .wrFreqLo2 value
  | 0x0F => .wrFreqHi2 value
  | 0x10 => .wrPwLo2 value
  | 0x11 => .wrPwHi2 value
  | 0x12 => .wrControl2 value
  | 0x13 => .wrAttackDecay2 value
  | 0x14 => .wrSustainRelease2 value
  | 0x15 => .wrFcLo value
  | 0x16 => .wrFcHi value
  | 0x17 => .wrResFilt value
  | 0x18 => .wrModeVol value
  | 0x19 => .wrUnmapped1919 value
  | n =>
    if n < 0x1C then .wrUnmapped1A1B (offset.extractLsb' 0 1) value
    else if n < 0x20 then .wrUnmapped1C1F (offset.extractLsb' 0 2) value
    else if n < 0x40 then .wrUnmapped203F (offset.extractLsb' 0 5) value
    else if n < 0x80 then .wrUnmapped407F (offset.extractLsb' 0 6) value
    else .wrUnmapped80FF (offset.extractLsb' 0 7) value

/-- The RD operation of an offset (R103). -/
def decodeRd (offset : Byte) : Instr :=
  match offset.toNat with
  | 0x18 => .rdBus1818
  | 0x19 => .rdPotx
  | 0x1A => .rdPoty
  | 0x1B => .rdOsc3
  | 0x1C => .rdEnv3
  | 0x1D => .rdBus1D1D
  | n =>
    if n < 0x10 then .rdBus000F (offset.extractLsb' 0 4)
    else if n < 0x18 then .rdBus1017 (offset.extractLsb' 0 3)
    else if n < 0x20 then .rdBus1E1F (offset.extractLsb' 0 1)
    else if n < 0x40 then .rdBus203F (offset.extractLsb' 0 5)
    else if n < 0x80 then .rdBus407F (offset.extractLsb' 0 6)
    else .rdBus80FF (offset.extractLsb' 0 7)

/-- The MUTE operation of its `arg1` (R101 class 0x9): the must-be-zero fields first, then the voice. -/
def decodeMute (a : BitVec 16) : Except DecodeError Instr :=
  if a.extractLsb' 10 6 ≠ 0 ∨ a.extractLsb' 1 7 ≠ 0 then .error .nonzeroField
  else
    match (a.extractLsb' 8 2).toNat with
    | 0 => .ok (.muteV0 (a.getLsbD 0))
    | 1 => .ok (.muteV1 (a.getLsbD 0))
    | 2 => .ok (.muteV2 (a.getLsbD 0))
    | _ => .error .muteVoiceThree

/-- `i` where a must-be-zero field is zero, `invalid` where it is not. -/
def whenZero (zero : Bool) (i : Instr) : Except DecodeError Instr :=
  if zero then .ok i else .error .nonzeroField

/-- The decode procedure of R106, on a word with its out-of-band operands. -/
def decode (c : Command) : Except DecodeError Instr :=
  let arg2 := wordArg2 c.word
  let arg1 := wordArg1 c.word
  match (wordClass c.word).toNat with
  | 0x0 => whenZero (arg2 == 0 && arg1 == 0) .clk
  | 0x1 => whenZero (arg2 == 0) (decodeWr (argHi arg1) (argLo arg1))
  | 0x2 => whenZero (arg2 == 0 && argLo arg1 == 0) (decodeRd (argHi arg1))
  | 0x3 => whenZero (arg2 == 0) (.clkn arg1.toNat)
  | 0x4 => whenZero (arg2 == 0 && arg1 == 0) .rst
  | 0x5 => whenZero (arg2 == 0) (.extin arg1)
  | 0x6 => whenZero (arg2 == 0 && arg1 == 0) .out
  | 0x7 => .ok (.render arg1.toNat arg2.toNat)
  | 0x8 => whenZero (arg2 == 0) (.model arg1.toNat)
  | 0x9 => if arg2 == 0 then decodeMute arg1 else .error .nonzeroField
  | 0xA => whenZero (arg2 == 0 && arg1.extractLsb' 1 15 == 0) (.exten (arg1.getLsbD 0))
  | 0xB => whenZero (arg2 == 0 && arg1 == 0) (.sampling c.record)
  | 0xC => whenZero (arg2 == 0 && arg1 == 0) (.calib c.points)
  | _ => .error .reservedClass

/-- The instruction the decoder reads from a bare table word: the bits above `nbits` are 0, and the out-of-band operands are the
records of zeros. -/
def decodeTableWord (nbits w : Nat) : Option Instr :=
  match decode (Command.plain (BitVec.ofNat 32 (w % 2 ^ nbits))) with
  | .ok i => some i
  | .error _ => none

/-! ## Encoding -/

/-- The command of a well-formed operation (R101; the offsets of R22 and of the opcode table). -/
def encode : Instr → Command
  | .wrFreqLo0 value => Command.plain (word 1 0 (0x00#8 ++ value))
  | .wrFreqHi0 value => Command.plain (word 1 0 (0x01#8 ++ value))
  | .wrPwLo0 value => Command.plain (word 1 0 (0x02#8 ++ value))
  | .wrPwHi0 value => Command.plain (word 1 0 (0x03#8 ++ value))
  | .wrControl0 value => Command.plain (word 1 0 (0x04#8 ++ value))
  | .wrAttackDecay0 value => Command.plain (word 1 0 (0x05#8 ++ value))
  | .wrSustainRelease0 value => Command.plain (word 1 0 (0x06#8 ++ value))
  | .wrFreqLo1 value => Command.plain (word 1 0 (0x07#8 ++ value))
  | .wrFreqHi1 value => Command.plain (word 1 0 (0x08#8 ++ value))
  | .wrPwLo1 value => Command.plain (word 1 0 (0x09#8 ++ value))
  | .wrPwHi1 value => Command.plain (word 1 0 (0x0A#8 ++ value))
  | .wrControl1 value => Command.plain (word 1 0 (0x0B#8 ++ value))
  | .wrAttackDecay1 value => Command.plain (word 1 0 (0x0C#8 ++ value))
  | .wrSustainRelease1 value => Command.plain (word 1 0 (0x0D#8 ++ value))
  | .wrFreqLo2 value => Command.plain (word 1 0 (0x0E#8 ++ value))
  | .wrFreqHi2 value => Command.plain (word 1 0 (0x0F#8 ++ value))
  | .wrPwLo2 value => Command.plain (word 1 0 (0x10#8 ++ value))
  | .wrPwHi2 value => Command.plain (word 1 0 (0x11#8 ++ value))
  | .wrControl2 value => Command.plain (word 1 0 (0x12#8 ++ value))
  | .wrAttackDecay2 value => Command.plain (word 1 0 (0x13#8 ++ value))
  | .wrSustainRelease2 value => Command.plain (word 1 0 (0x14#8 ++ value))
  | .wrFcLo value => Command.plain (word 1 0 (0x15#8 ++ value))
  | .wrFcHi value => Command.plain (word 1 0 (0x16#8 ++ value))
  | .wrResFilt value => Command.plain (word 1 0 (0x17#8 ++ value))
  | .wrModeVol value => Command.plain (word 1 0 (0x18#8 ++ value))
  | .wrUnmapped1919 value => Command.plain (word 1 0 (0x19#8 ++ value))
  | .wrUnmapped1A1B lo value => Command.plain (word 1 0 ((0xD#7 ++ lo) ++ value))
  | .wrUnmapped1C1F lo value => Command.plain (word 1 0 ((0x7#6 ++ lo) ++ value))
  | .wrUnmapped203F lo value => Command.plain (word 1 0 ((0x1#3 ++ lo) ++ value))
  | .wrUnmapped407F lo value => Command.plain (word 1 0 ((0x1#2 ++ lo) ++ value))
  | .wrUnmapped80FF lo value => Command.plain (word 1 0 ((0x1#1 ++ lo) ++ value))
  | .rdPotx => Command.plain (word 2 0 (0x19#8 ++ 0#8))
  | .rdPoty => Command.plain (word 2 0 (0x1A#8 ++ 0#8))
  | .rdOsc3 => Command.plain (word 2 0 (0x1B#8 ++ 0#8))
  | .rdEnv3 => Command.plain (word 2 0 (0x1C#8 ++ 0#8))
  | .rdBus000F lo => Command.plain (word 2 0 ((0x0#4 ++ lo) ++ 0#8))
  | .rdBus1017 lo => Command.plain (word 2 0 ((0x2#5 ++ lo) ++ 0#8))
  | .rdBus1818 => Command.plain (word 2 0 (0x18#8 ++ 0#8))
  | .rdBus1D1D => Command.plain (word 2 0 (0x1D#8 ++ 0#8))
  | .rdBus1E1F lo => Command.plain (word 2 0 ((0xF#7 ++ lo) ++ 0#8))
  | .rdBus203F lo => Command.plain (word 2 0 ((0x1#3 ++ lo) ++ 0#8))
  | .rdBus407F lo => Command.plain (word 2 0 ((0x1#2 ++ lo) ++ 0#8))
  | .rdBus80FF lo => Command.plain (word 2 0 ((0x1#1 ++ lo) ++ 0#8))
  | .clk => Command.plain (word 0 0 0)
  | .clkn delta => Command.plain (word 3 0 (BitVec.ofNat 16 delta))
  | .rst => Command.plain (word 4 0 0)
  | .extin sample => Command.plain (word 5 0 sample)
  | .out => Command.plain (word 6 0 0)
  | .render delta maxSamples => Command.plain (word 7 (BitVec.ofNat 12 maxSamples) (BitVec.ofNat 16 delta))
  | .model number => Command.plain (word 8 0 (BitVec.ofInt 16 number))
  | .muteV0 flag => Command.plain (word 9 0 ((0#6 ++ 0#2) ++ (0#7 ++ BitVec.ofBool flag)))
  | .muteV1 flag => Command.plain (word 9 0 ((0#6 ++ 1#2) ++ (0#7 ++ BitVec.ofBool flag)))
  | .muteV2 flag => Command.plain (word 9 0 ((0#6 ++ 2#2) ++ (0#7 ++ BitVec.ofBool flag)))
  | .exten flag => Command.plain (word 0xA 0 (0#15 ++ BitVec.ofBool flag))
  | .sampling args => { word := word 0xB 0 0, record := args }
  | .calib points => { word := word 0xC 0 0, points := points }

/-! ## The opcode table as the spec prints it -/

/-- One row of spec/opcode_table.json: a word belongs to the row when its bits under `mask` are `pattern`. -/
structure OpcodeRow where
  mnemonic : String
  pattern : Word
  mask : Word
  deriving DecidableEq, Repr

/-- The word belongs to the row. -/
def OpcodeRow.covers (r : OpcodeRow) (w : Word) : Bool := w &&& r.mask == r.pattern

/-- No word belongs to both rows: the rows ask for different values of a bit that both masks hold. -/
def OpcodeRow.disjoint (r q : OpcodeRow) : Bool := (r.pattern ^^^ q.pattern) &&& (r.mask &&& q.mask) != 0

/-- The 56 rows of spec/opcode_table.json, in its order. -/
def opcodeRows : List OpcodeRow :=
  [⟨"WR.FREQ_LO_0", 0x10000000, 0xFFFFFF00⟩,
   ⟨"WR.FREQ_HI_0", 0x10000100, 0xFFFFFF00⟩,
   ⟨"WR.PW_LO_0", 0x10000200, 0xFFFFFF00⟩,
   ⟨"WR.PW_HI_0", 0x10000300, 0xFFFFFF00⟩,
   ⟨"WR.CONTROL_0", 0x10000400, 0xFFFFFF00⟩,
   ⟨"WR.ATTACK_DECAY_0", 0x10000500, 0xFFFFFF00⟩,
   ⟨"WR.SUSTAIN_RELEASE_0", 0x10000600, 0xFFFFFF00⟩,
   ⟨"WR.FREQ_LO_1", 0x10000700, 0xFFFFFF00⟩,
   ⟨"WR.FREQ_HI_1", 0x10000800, 0xFFFFFF00⟩,
   ⟨"WR.PW_LO_1", 0x10000900, 0xFFFFFF00⟩,
   ⟨"WR.PW_HI_1", 0x10000A00, 0xFFFFFF00⟩,
   ⟨"WR.CONTROL_1", 0x10000B00, 0xFFFFFF00⟩,
   ⟨"WR.ATTACK_DECAY_1", 0x10000C00, 0xFFFFFF00⟩,
   ⟨"WR.SUSTAIN_RELEASE_1", 0x10000D00, 0xFFFFFF00⟩] ++
  [⟨"WR.FREQ_LO_2", 0x10000E00, 0xFFFFFF00⟩,
   ⟨"WR.FREQ_HI_2", 0x10000F00, 0xFFFFFF00⟩,
   ⟨"WR.PW_LO_2", 0x10001000, 0xFFFFFF00⟩,
   ⟨"WR.PW_HI_2", 0x10001100, 0xFFFFFF00⟩,
   ⟨"WR.CONTROL_2", 0x10001200, 0xFFFFFF00⟩,
   ⟨"WR.ATTACK_DECAY_2", 0x10001300, 0xFFFFFF00⟩,
   ⟨"WR.SUSTAIN_RELEASE_2", 0x10001400, 0xFFFFFF00⟩,
   ⟨"WR.FC_LO", 0x10001500, 0xFFFFFF00⟩,
   ⟨"WR.FC_HI", 0x10001600, 0xFFFFFF00⟩,
   ⟨"WR.RES_FILT", 0x10001700, 0xFFFFFF00⟩,
   ⟨"WR.MODE_VOL", 0x10001800, 0xFFFFFF00⟩,
   ⟨"WR.unmapped_19_19", 0x10001900, 0xFFFFFF00⟩,
   ⟨"WR.unmapped_1A_1B", 0x10001A00, 0xFFFFFE00⟩,
   ⟨"WR.unmapped_1C_1F", 0x10001C00, 0xFFFFFC00⟩] ++
  [⟨"WR.unmapped_20_3F", 0x10002000, 0xFFFFE000⟩,
   ⟨"WR.unmapped_40_7F", 0x10004000, 0xFFFFC000⟩,
   ⟨"WR.unmapped_80_FF", 0x10008000, 0xFFFF8000⟩,
   ⟨"RD.POTX", 0x20001900, 0xFFFFFFFF⟩,
   ⟨"RD.POTY", 0x20001A00, 0xFFFFFFFF⟩,
   ⟨"RD.OSC3", 0x20001B00, 0xFFFFFFFF⟩,
   ⟨"RD.ENV3", 0x20001C00, 0xFFFFFFFF⟩,
   ⟨"RD.busValue_00_0F", 0x20000000, 0xFFFFF0FF⟩,
   ⟨"RD.busValue_10_17", 0x20001000, 0xFFFFF8FF⟩,
   ⟨"RD.busValue_18_18", 0x20001800, 0xFFFFFFFF⟩,
   ⟨"RD.busValue_1D_1D", 0x20001D00, 0xFFFFFFFF⟩,
   ⟨"RD.busValue_1E_1F", 0x20001E00, 0xFFFFFEFF⟩,
   ⟨"RD.busValue_20_3F", 0x20002000, 0xFFFFE0FF⟩,
   ⟨"RD.busValue_40_7F", 0x20004000, 0xFFFFC0FF⟩] ++
  [⟨"RD.busValue_80_FF", 0x20008000, 0xFFFF80FF⟩,
   ⟨"CLK", 0x00000000, 0xFFFFFFFF⟩,
   ⟨"CLKN", 0x30000000, 0xFFFF0000⟩,
   ⟨"RST", 0x40000000, 0xFFFFFFFF⟩,
   ⟨"EXTIN", 0x50000000, 0xFFFF0000⟩,
   ⟨"OUT", 0x60000000, 0xFFFFFFFF⟩,
   ⟨"RENDER", 0x70000000, 0xF0000000⟩,
   ⟨"MODEL", 0x80000000, 0xFFFF0000⟩,
   ⟨"MUTE.v0", 0x90000000, 0xFFFFFFFE⟩,
   ⟨"MUTE.v1", 0x90000100, 0xFFFFFFFE⟩,
   ⟨"MUTE.v2", 0x90000200, 0xFFFFFFFE⟩,
   ⟨"EXTEN", 0xA0000000, 0xFFFFFFFE⟩,
   ⟨"SAMPLING", 0xB0000000, 0xFFFFFFFF⟩,
   ⟨"CALIB", 0xC0000000, 0xFFFFFFFF⟩]

end Sys2Proof
end

