-- ==== Sys2Proof/Machine/Components.lean ====
section
/-! DEFINITION. The state of each component of the chip, field by field as 10_state.md R40 to R47 lists it. -/

namespace Sys2Proof.Machine

/-- Oscillator state of one voice (R40). -/
structure Osc where
  accumulator : BitVec 24
  shiftRegister : BitVec 23
  freq : BitVec 16
  pulseWidth : BitVec 12
  /-- Bit 0 triangle, bit 1 sawtooth, bit 2 pulse, bit 3 noise. -/
  waveformSelect : BitVec 4
  test : Bool
  ringMod : Bool
  syncEnable : Bool
  msbRising : Bool
  deriving DecidableEq, Repr

/-- `env[v].state` (R42). -/
inductive EnvPhase where
  | attack
  | decaySustain
  | release
  deriving DecidableEq, Repr

/-- Envelope state of one voice (R42). -/
structure Env where
  attack : BitVec 4
  decay : BitVec 4
  sustain : BitVec 4
  release : BitVec 4
  gate : Bool
  state : EnvPhase
  envelopeCounter : Byte
  rateCounter : BitVec 15
  ratePeriod : BitVec 15
  exponentialCounter : Byte
  exponentialCounterPeriod : Byte
  holdZero : Bool
  deriving DecidableEq, Repr

/-- Filter state (R44). -/
structure Filt where
  cutoff : BitVec 11
  resonance : BitVec 4
  /-- Bit v routes voice v, bit 3 the external input. -/
  routing : BitVec 4
  voice3Disconnect : Bool
  /-- Bit 0 lowpass, bit 1 bandpass, bit 2 highpass. -/
  outputSelect : BitVec 3
  volume : BitVec 4
  highpassState : S32
  bandpassState : S32
  lowpassState : S32
  unfilteredSum : S32
  deriving DecidableEq, Repr

/-- Output-stage state (R45). -/
structure Extf where
  lowpassState : S32
  highpassState : S32
  out : S32
  enabled : Bool
  deriving DecidableEq, Repr

/-- Chip-level state (R46). -/
structure Chip where
  busValue : Byte
  busValueTtl : BitVec 16
  externalInput : S32
  chipModel : ChipModel
  deriving DecidableEq, Repr

/-- A checked calibration point: control value and frequency in Hz, both integers (R262, R264). -/
structure Knot where
  x : Nat
  y : Nat
  deriving DecidableEq, Repr

/-- `CALIB[m]`: the calibration of one model, a list of pieces, each a list of points (R262). `install` is the model's own
field: the number of the calibration, which names the free values of the entries no piece covers (log entry 5). -/
structure Calibration where
  pieces : List (List Knot)
  install : Nat
  deriving DecidableEq, Repr

/-- `rs.sampleHistory`: the ring of R47 as the list of its entries that are not 0, indices strictly rising. -/
abbrev History := List (Nat × S16)

/-- Resampler state (R47). `firDesign` stands for `rs.FIR`: the tables are a function of what SAMPLING built them from. -/
structure Resampler where
  strategy : Strategy
  cyclesPerSample : S32
  sampleOffset : S32
  samplePrev : S16
  sampleHistory : History
  sampleIndex : Nat
  firN : Nat
  firRes : Nat
  firDesign : FirDesign
  deriving DecidableEq, Repr

/-- The causes of `ConfigError` (60_exceptions.md R382). -/
inductive ConfigCode where
  /-- Code 1: the resampling ring would overflow. -/
  | ringOverflow
  /-- Code 2: the passband is above 0.9 of half the output rate. -/
  | passband
  /-- Code 3: `filterScale` is outside [0.9, 1.0]. -/
  | filterScale
  /-- Code 4: the calibration points are not acceptable. -/
  | calibration
  /-- Code 5: the chip model is not 6581 or 8580. -/
  | chipModel
  /-- Code 6: a frequency, or the ratio of the two, is not usable. -/
  | frequency
  deriving DecidableEq, Repr

/-- What an operation hands back to the host (R100, column "result"). -/
inductive Result where
  /-- The operation has no result. -/
  | none
  /-- The byte of a RD. -/
  | byte (b : Byte)
  /-- The sample of an OUT. -/
  | sample (y : S16)
  /-- The samples of a RENDER and the cycles left (`rem`). -/
  | samples (ys : List S16) (rem : Nat)
  /-- A configuration operation succeeded. -/
  | ok
  /-- A configuration operation failed (R381). -/
  | configError (code : ConfigCode)
  deriving DecidableEq, Repr

end Sys2Proof.Machine
end

