-- ==== Sys2Proof/Machine/Tables.lean ====
section
/-! DEFINITION. The constants of the chip: what DOC fixes (the sync ring, the sustain and exponential tables, the bus window, the
potentiometer value), the default configuration record of 00_scope.md R12, and the values of every field after RST and at power-on. -/

namespace Sys2Proof.Machine

/-! ## Selection by model and by voice -/

/-- The entry of a model-indexed parameter at model m. -/
def perModel {α : Type} (t : PerModel α) : ChipModel → α
  | .m6581 => t.m6581
  | .m8580 => t.m8580

/-- The table with the entry of model m replaced. -/
def setPerModel {α : Type} (t : PerModel α) (m : ChipModel) (a : α) : PerModel α :=
  match m with
  | .m6581 => { t with m6581 := a }
  | .m8580 => { t with m8580 := a }

/-- The component of voice v. -/
def ofVoice {α : Type} (t : PerVoice α) : VoiceIdx → α
  | .v0 => t.v0
  | .v1 => t.v1
  | .v2 => t.v2

/-- The three components with that of voice v replaced. -/
def setVoice {α : Type} (t : PerVoice α) (v : VoiceIdx) (a : α) : PerVoice α :=
  match v with
  | .v0 => { t with v0 := a }
  | .v1 => { t with v1 := a }
  | .v2 => { t with v2 := a }

/-- The same value for the three voices. -/
def everyVoice {α : Type} (a : α) : PerVoice α := { v0 := a, v1 := a, v2 := a }

/-- One function applied to each of the three components. -/
def mapVoices {α β : Type} (f : α → β) (t : PerVoice α) : PerVoice β := { v0 := f t.v0, v1 := f t.v1, v2 := f t.v2 }

/-! ## What DOC fixes -/

/-- `SYNC_SOURCE[v]`: 0 <- 2, 1 <- 0, 2 <- 1 (R41). -/
def syncSource : VoiceIdx → VoiceIdx
  | .v0 => .v2
  | .v1 => .v0
  | .v2 => .v1

/-- `SYNC_DEST[v]`, the inverse of `SYNC_SOURCE` (R41). -/
def syncDest : VoiceIdx → VoiceIdx
  | .v0 => .v1
  | .v1 => .v2
  | .v2 => .v0

/-- `BUS_TTL` (R291). -/
def busTtl : BitVec 16 := 0x2000

/-- `POT_VALUE` (R296). -/
def potValue : Byte := 0xFF

/-- `SUSTAIN_LEVEL[n]` = n * 0x11 (R203 b). -/
def sustainLevel (n : BitVec 4) : Byte := n.setWidth 8 * 0x11

/-- `EXP_PERIOD_AT`: the exponential period keyed on the envelope counter (R203 c). -/
def expPeriodAt (c : Byte) : Option Byte :=
  match c.toNat with
  | 0xFF => some 1
  | 0x5D => some 2
  | 0x36 => some 4
  | 0x1A => some 8
  | 0x0E => some 16
  | 0x06 => some 30
  | 0x00 => some 1
  | _ => none

/-- `RATE_PERIOD[n]` (R203 a). -/
def ratePeriodAt (cfg : Cfg) (n : BitVec 4) : BitVec 15 := cfg.ratePeriod[n.toNat]

/-- `INV_Q[r]` (R246). -/
def invQAt (cfg : Cfg) (r : BitVec 4) : S32 := cfg.invQ[r.toNat]

/-! ## The default configuration record (R12) -/

/-- Every parameter of `Cfg` at the default of R12 (assumption log entry 1). -/
def standardCfg : Cfg :=
  { lfsrReseed := 0x7FFFF8
    lfsrReset := 0x7FFFF8
    lfsrTestRise := some 0x000000
    noiseTap := #v[2, 4, 7, 11, 13, 16, 20, 22]
    waveZero := { m6581 := 0x380, m8580 := 0x800 }
    voiceDC := { m6581 := 522240, m8580 := 0 }
    ratePeriod := #v[9, 32, 63, 95, 149, 220, 267, 313, 392, 977, 1954, 3126, 3907, 11720, 19532, 31251]
    rateWrapTo := 0
    w0Scale := 1048576 / 1000000
    w0Max1 := 105414
    w0MaxDt := 26353
    filtBulkStep := 8
    invQ := #v[1448, 1323, 1218, 1128, 1051, 984, 925, 872, 825, 783, 745, 710, 679, 650, 624, 599]
    filterOrder := .doc
    mixerDC := { m6581 := BitVec.ofInt 32 (-454), m8580 := 0 }
    extfW0LP := 104858
    extfW0HP := 105
    extfHpTracks := .lowpass
    extfDC := { m6581 := 280065, m8580 := 0 }
    extfBulkStep := 8
    extinScale := []
    outDivisor := 11
    firN := 125
    firResInterpolate := 285
    firResFast := 51473
    firShift := 15
    ringSize := 16384
    samplingChecksAll := true
    renderKeepsRemainder := false
    filterScaleDefault := 97 / 100
    patchedNoise := false
    patchedFilter := false }

/-- The default calibration of the 6581, first piece: control values 0 to 1023 (93_implementation_defined.md G12). -/
def piece6581Low : List Knot :=
  [⟨0, 220⟩, ⟨128, 230⟩, ⟨256, 250⟩, ⟨384, 300⟩, ⟨512, 420⟩, ⟨640, 780⟩, ⟨768, 1600⟩, ⟨832, 2300⟩, ⟨896, 3200⟩,
   ⟨960, 4300⟩, ⟨992, 5000⟩, ⟨1008, 5400⟩, ⟨1016, 5700⟩, ⟨1023, 6000⟩]

/-- The default calibration of the 6581, second piece: control values 1024 to 2047 (G12). -/
def piece6581High : List Knot :=
  [⟨1024, 4600⟩, ⟨1032, 4800⟩, ⟨1056, 5300⟩, ⟨1088, 6000⟩, ⟨1120, 6600⟩, ⟨1152, 7200⟩, ⟨1280, 9500⟩, ⟨1408, 12000⟩,
   ⟨1536, 14500⟩, ⟨1664, 16000⟩, ⟨1792, 17100⟩, ⟨1920, 17700⟩, ⟨2047, 18000⟩]

/-- The default calibration of the 8580: one piece (G12). -/
def piece8580 : List Knot :=
  [⟨0, 0⟩, ⟨128, 800⟩, ⟨256, 1600⟩, ⟨384, 2500⟩, ⟨512, 3300⟩, ⟨640, 4100⟩, ⟨768, 4800⟩, ⟨896, 5600⟩, ⟨1024, 6500⟩,
   ⟨1152, 7500⟩, ⟨1280, 8400⟩, ⟨1408, 9200⟩, ⟨1536, 9800⟩, ⟨1664, 10500⟩, ⟨1792, 11000⟩, ⟨1920, 11700⟩, ⟨2047, 12500⟩]

/-- `CALIB` at power-on (R410 b). -/
def powerOnCalib : PerModel Calibration :=
  { m6581 := { pieces := [piece6581Low, piece6581High], install := 0 }
    m8580 := { pieces := [piece8580], install := 1 } }

/-- The install number the first successful CALIB takes. -/
def powerOnInstalls : Nat := 2

/-! ## Values after RST and at power-on (R305, R410) -/

/-- The oscillator after RST (R40). -/
def Osc.afterRst (cfg : Cfg) : Osc :=
  { accumulator := 0, shiftRegister := cfg.lfsrReset, freq := 0, pulseWidth := 0, waveformSelect := 0, test := false,
    ringMod := false, syncEnable := false, msbRising := false }

/-- The envelope after RST (R42). -/
def Env.afterRst (cfg : Cfg) : Env :=
  { attack := 0, decay := 0, sustain := 0, release := 0, gate := false, state := .release, envelopeCounter := 0,
    rateCounter := 0, ratePeriod := ratePeriodAt cfg 0, exponentialCounter := 0, exponentialCounterPeriod := 1,
    holdZero := true }

/-- The filter after RST (R44). -/
def Filt.afterRst : Filt :=
  { cutoff := 0, resonance := 0, routing := 0, voice3Disconnect := false, outputSelect := 0, volume := 0,
    highpassState := 0, bandpassState := 0, lowpassState := 0, unfilteredSum := 0 }

/-- The output stage after RST: `enabled` is configuration and stays (R45). -/
def Extf.afterRst (x : Extf) : Extf := { x with lowpassState := 0, highpassState := 0, out := 0 }

/-- The chip-level state after RST: the external input and the model stay (R46). -/
def Chip.afterRst (c : Chip) : Chip := { c with busValue := 0, busValueTtl := 0 }

/-- The output stage at power-on (R410 b). -/
def Extf.powerOn : Extf := { lowpassState := 0, highpassState := 0, out := 0, enabled := true }

/-- The chip-level state at power-on (R410 b). -/
def Chip.powerOn : Chip := { busValue := 0, busValueTtl := 0, externalInput := 0, chipModel := .m6581 }

/-- The design record before any FIR table was built (93 U5; assumption log entry 3). -/
def blankFirDesign : FirDesign :=
  { chipClockHz := 0, outputSampleHz := 0, passbandHz := 0, filterScale := 0, strategy := .fast, shift := 0 }

/-- The resampler at power-on: as after `SAMPLING 985248,fast,44100` (R410 c). `firN`, `firRes` and the tables have no value in the
spec before a SAMPLING with a resample strategy (93 U5; assumption log entry 3). -/
def Resampler.powerOn : Resampler :=
  { strategy := .fast, cyclesPerSample := 1464154, sampleOffset := 0, samplePrev := 0, sampleHistory := [],
    sampleIndex := 0, firN := 0, firRes := 0, firDesign := blankFirDesign }

end Sys2Proof.Machine
end

