-- ==== Sys2Proof/Machine/State.lean ====
section
/-! DEFINITION. The state of the machine, the reasons a step can stop, and the state after power-on. -/

namespace Sys2Proof.Machine

/-- Why the machine stops with a fault. There is no such reason: every operation is total (00_scope.md R4, 93 section 1), so the type
is empty. A `ConfigError` is not a fault of the machine: it is a result handed to the host, after which "every operation remains
applicable" (60_exceptions.md R381). Safe: nothing can be claimed of a fault that does not exist. -/
inductive Fault where
  deriving DecidableEq, Repr

/-- Why the model gives a command no meaning. -/
inductive Refusal where
  /-- Raised by an arm of `exec` for an instruction without a meaning yet: no arm raises it. Safe: a claim about the instruction
  becomes unprovable. -/
  | notModelled (mnemonic : String)
  /-- Raised by `step` for a command word that decodes to `invalid` (30_encoding.md R106, 60_exceptions.md R387: "the model refuses
  it, and the chip state is unchanged"). Safe: such a word is no operation. -/
  | invalidWord (reason : DecodeError)
  /-- Raised by `step` when `PATCHED_NOISE` is true (41_noise_lfsr.md R176: "a model refuses true"). Safe. -/
  | patchedNoise
  /-- Raised by `step` when `PATCHED_FILTER` is true (44_filter.md R266: "a model refuses true"). Safe. -/
  | patchedFilter
  deriving DecidableEq, Repr

/-- The whole machine: the run-time state and the configuration of 10_state.md R40 to R47, the configuration record of R12, and four
fields of the model's own (`pending`, `result`, `installs`, and `cfg` itself, which no operation changes). -/
structure State where
  /-- The parameters of R12. -/
  cfg : Cfg
  /-- The three oscillators (R40). -/
  osc : PerVoice Osc
  /-- The three envelopes (R42). -/
  env : PerVoice Env
  /-- `voice[v].muted` (R43). -/
  muted : PerVoice Bool
  /-- The filter (R44). -/
  filt : Filt
  /-- The output stage (R45). -/
  extf : Extf
  /-- The chip-level state (R46). -/
  chip : Chip
  /-- `CALIB[m]` for both models (R262, R264). -/
  calib : PerModel Calibration
  /-- The resampler (R47). -/
  rs : Resampler
  /-- The host's operation stream, the next operation first: where `step` fetches (assumption log entry 4). -/
  pending : List Command
  /-- What the last operation handed back to the host (R100; assumption log entry 7). -/
  result : Result
  /-- How many calibrations exist: the number the next successful CALIB takes (assumption log entry 5). -/
  installs : Nat
  deriving DecidableEq, Repr

/-- What a meaning answers. -/
abbrev Outcome := Host.Outcome State Fault Refusal

/-- The power-on state of a chip instance (70_reset_and_hazards.md R410), with no operation pending. -/
def State.reset : State :=
  { cfg := standardCfg
    osc := everyVoice (Osc.afterRst standardCfg)
    env := everyVoice (Env.afterRst standardCfg)
    muted := everyVoice false
    filt := Filt.afterRst
    extf := Extf.powerOn
    chip := Chip.powerOn
    calib := powerOnCalib
    rs := Resampler.powerOn
    pending := []
    result := .none
    installs := powerOnInstalls }

end Sys2Proof.Machine
end

