-- ==== Sys2Proof/Machine/Operands.lean ====
section
/-! DEFINITION. Operand forms: the arithmetic notation of 00_scope.md section 6 (R15, 92 D6), the fields of a data byte (10_state.md R23 to
R33), and which register an offset selects (30_encoding.md R102, R103). -/

namespace Sys2Proof.Machine

/-! ## Arithmetic notation (R15) -/

/-- `asr(z, k)` on an s32: the arithmetic shift right, floor(z / 2^k). -/
def asr (z : S32) (k : Nat) : S32 := z.sshiftRight k

/-- `sext_32(v)` of an s16. -/
def sext32 (y : S16) : S32 := y.signExtend 32

/-- `sat16(z)`: z within -32768..32767, else the nearer bound. -/
def sat16 (z : Int) : S16 :=
  if z < -32768 then BitVec.ofInt 16 (-32768) else if 32767 < z then BitVec.ofInt 16 32767 else BitVec.ofInt 16 z

/-- `tdiv(a, b)`: division truncating toward zero. -/
def tdiv (a b : Int) : Int := a.tdiv b

/-- `trunc(r)`: a real number truncated toward zero. -/
def truncRat (r : Rat) : Int := if r < 0 then -(-r).floor else r.floor

/-- `x` where the condition holds, 0 elsewhere: a term of a sum over a chosen subset. -/
def select32 (b : Bool) (x : S32) : S32 := if b then x else 0

/-! ## Fields of a data byte -/

/-- Bits [7:4]. -/
def hiNibble (b : Byte) : BitVec 4 := b.extractLsb' 4 4

/-- Bits [3:0]. -/
def loNibble (b : Byte) : BitVec 4 := b.extractLsb' 0 4

/-- A 16-bit quantity with its low byte replaced (R140). -/
def withLoByte (x : BitVec 16) (b : Byte) : BitVec 16 := x.extractLsb' 8 8 ++ b

/-- A 16-bit quantity with its high byte replaced (R141). -/
def withHiByte (x : BitVec 16) (b : Byte) : BitVec 16 := b ++ x.extractLsb' 0 8

/-- The pulse width with its low byte replaced (R142). -/
def withPwLo (x : BitVec 12) (b : Byte) : BitVec 12 := x.extractLsb' 8 4 ++ b

/-- The pulse width with its upper four bits replaced by value[3:0] (R143). -/
def withPwHi (x : BitVec 12) (b : Byte) : BitVec 12 := loNibble b ++ x.extractLsb' 0 8

/-- The cutoff with its lower three bits replaced by value[2:0] (R240). -/
def withFcLo (x : BitVec 11) (b : Byte) : BitVec 11 := x.extractLsb' 3 8 ++ b.extractLsb' 0 3

/-- The cutoff with its upper eight bits replaced (R241). -/
def withFcHi (x : BitVec 11) (b : Byte) : BitVec 11 := b ++ x.extractLsb' 0 3

/-! ## The register an offset selects -/

/-- What a WR moves its byte into (R102). -/
inductive WriteTarget where
  | freqLo (v : VoiceIdx)
  | freqHi (v : VoiceIdx)
  | pwLo (v : VoiceIdx)
  | pwHi (v : VoiceIdx)
  | control (v : VoiceIdx)
  | attackDecay (v : VoiceIdx)
  | sustainRelease (v : VoiceIdx)
  | fcLo
  | fcHi
  | resFilt
  | modeVol
  | unmapped
  deriving DecidableEq, Repr

/-- What a RD reads (R103). -/
inductive ReadSource where
  | pot
  | osc3
  | env3
  | bus
  deriving DecidableEq, Repr

/-- The voice of a register offset below 0x15: offset div 7. -/
def voiceOfOffset (offset : Byte) : VoiceIdx :=
  match offset.toNat / 7 with
  | 0 => .v0
  | 1 => .v1
  | _ => .v2

/-- The register a WR selects: voice and kind by offset div 7 and offset mod 7, then the four filter registers (R291). -/
def writeTarget (offset : Byte) : WriteTarget :=
  if offset.toNat ≤ 0x14 then
    match offset.toNat % 7 with
    | 0 => .freqLo (voiceOfOffset offset)
    | 1 => .freqHi (voiceOfOffset offset)
    | 2 => .pwLo (voiceOfOffset offset)
    | 3 => .pwHi (voiceOfOffset offset)
    | 4 => .control (voiceOfOffset offset)
    | 5 => .attackDecay (voiceOfOffset offset)
    | _ => .sustainRelease (voiceOfOffset offset)
  else
    match offset.toNat with
    | 0x15 => .fcLo
    | 0x16 => .fcHi
    | 0x17 => .resFilt
    | 0x18 => .modeVol
    | _ => .unmapped

/-- The source a RD selects (R295). -/
def readSource (offset : Byte) : ReadSource :=
  match offset.toNat with
  | 0x19 => .pot
  | 0x1A => .pot
  | 0x1B => .osc3
  | 0x1C => .env3
  | _ => .bus

end Sys2Proof.Machine
end

