-- ==== Sys2Proof/Machine/Flags.lean ====
section
/-! DEFINITION. The one-bit conditions that rules compute (10_state.md R48): edges of counters and of register bits. -/

namespace Sys2Proof.Machine

/-- `rising(old, new, i)`: bit i was 0 and is 1 (R15). -/
def rising {w : Nat} (old new : BitVec w) (i : Nat) : Bool := !old.getLsbD i && new.getLsbD i

/-- A stored bit goes 0 to 1. -/
def setEdge (old new : Bool) : Bool := !old && new

/-- A stored bit goes 1 to 0. -/
def clearEdge (old new : Bool) : Bool := old && !new

/-- The condition of hard sync of voice v's destination (R146): v's MSB rose, the destination listens, and v is not itself being synced
by its source in this cycle. -/
def syncFires (oscs : PerVoice Osc) (v : VoiceIdx) : Bool :=
  (ofVoice oscs v).msbRising &&
  (ofVoice oscs (syncDest v)).syncEnable &&
  !((ofVoice oscs v).syncEnable && (ofVoice oscs (syncSource v)).msbRising)

/-- The voice-3 disconnect takes voice 2 out of the mix (R250): the bit is set and voice 2 is not routed through the filter. -/
def voice3Removed (f : Filt) : Bool := f.voice3Disconnect && !f.routing.getLsbD 2

/-- The comparator of the pulse output (R153): high when `test` is set or the accumulator's top 12 bits have reached the width. -/
def pulseHigh (o : Osc) : Bool := o.test || decide (o.pulseWidth ≤ o.accumulator.extractLsb' 12 12)

end Sys2Proof.Machine
end

