-- ==== Sys2Proof/Machine/Ops.lean ====
section
/-! DEFINITION. The named operations over the state: one setter per field, the register latch, the sample ring (the only array of the
chip), handing a result to the host, and raising `ConfigError`. -/

namespace Sys2Proof.Machine

/-! ## Setters -/

/-- The oscillators replaced. -/
def State.setOsc (s : State) (x : PerVoice Osc) : State := { s with osc := x }

/-- The envelopes replaced. -/
def State.setEnv (s : State) (x : PerVoice Env) : State := { s with env := x }

/-- The mute flags replaced. -/
def State.setMuted (s : State) (x : PerVoice Bool) : State := { s with muted := x }

/-- The filter replaced. -/
def State.setFilt (s : State) (x : Filt) : State := { s with filt := x }

/-- The output stage replaced. -/
def State.setExtf (s : State) (x : Extf) : State := { s with extf := x }

/-- The chip-level state replaced. -/
def State.setChip (s : State) (x : Chip) : State := { s with chip := x }

/-- The calibrations replaced. -/
def State.setCalib (s : State) (x : PerModel Calibration) : State := { s with calib := x }

/-- The resampler replaced. -/
def State.setRs (s : State) (x : Resampler) : State := { s with rs := x }

/-- The operation stream replaced. -/
def State.setPending (s : State) (x : List Command) : State := { s with pending := x }

/-- The result replaced. -/
def State.setResult (s : State) (x : Result) : State := { s with result := x }

/-- The install counter replaced. -/
def State.setInstalls (s : State) (x : Nat) : State := { s with installs := x }

/-! ## Answers -/

/-- The operation completes with a result for the host. -/
def answer (r : Result) (s : State) : Outcome := .next (s.setResult r)

/-- The operation completes and has no result. -/
def done (s : State) : Outcome := answer .none s

/-- `raise ConfigError(code)`, the one exception of the chip: "The operation ends at once; no state element at all is changed by it";
the host receives the failure and every operation stays applicable (60_exceptions.md R381). There is no entry sequence, no saved
register, no handler, and nothing to return from. -/
def raiseConfigError (code : ConfigCode) (s : State) : Outcome := answer (.configError code) s

/-- The number of a `ConfigError` code (R382). -/
def configCodeNumber : ConfigCode → Nat
  | .ringOverflow => 1
  | .passband => 2
  | .filterScale => 3
  | .calibration => 4
  | .chipModel => 5
  | .frequency => 6

/-! ## Register writes -/

/-- What every WR does, whatever its offset: latch the byte and re-arm the time-to-live (R291, R75). -/
def latchBus (value : Byte) (s : State) : State :=
  s.setChip { s.chip with busValue := value, busValueTtl := busTtl }

/-- The oscillator of voice v updated. -/
def modifyOsc (v : VoiceIdx) (f : Osc → Osc) (s : State) : State :=
  s.setOsc (setVoice s.osc v (f (ofVoice s.osc v)))

/-- The envelope of voice v updated. -/
def modifyEnv (v : VoiceIdx) (f : Env → Env) (s : State) : State :=
  s.setEnv (setVoice s.env v (f (ofVoice s.env v)))

/-- The filter updated. -/
def modifyFilt (f : Filt → Filt) (s : State) : State := s.setFilt (f s.filt)

/-! ## The sample ring (R47, R354) -/

/-- Entry i of the ring. An entry that is not listed reads as 0: "Entries never written since the last SAMPLING read as 0" (R354). -/
def historyRead : History → Nat → S16
  | [], _ => 0
  | (j, y) :: rest, i => if j = i then y else historyRead rest i

/-- Entry i of the ring replaced, in the canonical form: writing 0 removes the entry. -/
def historyWrite : History → Nat → S16 → History
  | [], i, y => if y = 0 then [] else [(i, y)]
  | (j, z) :: rest, i, y =>
    if i < j then (if y = 0 then (j, z) :: rest else (i, y) :: (j, z) :: rest)
    else if j = i then (if y = 0 then rest else (i, y) :: rest)
    else (j, z) :: historyWrite rest i y

/-- The canonical form: indices strictly rising from `low` on and below `size`, no entry 0. -/
def historyWfFrom (size : Nat) : Nat → History → Bool
  | _, [] => true
  | low, (j, y) :: rest => decide (low ≤ j) && decide (j < size) && decide (y ≠ 0) && historyWfFrom size (j + 1) rest

/-- The ring is in its canonical form and inside its size. -/
def historyWf (size : Nat) (h : History) : Bool := historyWfFrom size 0 h

/-! ## Loops -/

/-- The sub-step loop of R255 and R284: `while n > 0: k <- min(n, step); …; n <- n - k`, with `fuel` at least the number of sub-steps
(n sub-steps always suffice). -/
def subSteps {α : Type} (step : Nat) (f : Nat → α → α) : (fuel n : Nat) → α → α
  | 0, _, a => a
  | fuel + 1, n, a => if n = 0 then a else subSteps step f fuel (n - min n step) (f (min n step) a)

end Sys2Proof.Machine
end

