-- ==== Sys2Proof/Machine/Envelope.lean ====
section
/-! DEFINITION. The ADSR envelope generator: register writes and the per-cycle step (42_envelope.md). -/

namespace Sys2Proof.Machine

/-! ## Register writes -/

/-- WR CONTROL_v, envelope part: the gate is value[0] (R190). -/
def Env.writeControl (cfg : Cfg) (value : Byte) (e : Env) : Env :=
  let g := value.getLsbD 0
  if setEdge e.gate g then
    { e with gate := g, state := .attack, ratePeriod := ratePeriodAt cfg e.attack, holdZero := false }
  else if clearEdge e.gate g then
    { e with gate := g, state := .release, ratePeriod := ratePeriodAt cfg e.release }
  else { e with gate := g }

/-- WR ATTACK_DECAY_v (R191). -/
def Env.writeAttackDecay (cfg : Cfg) (value : Byte) (e : Env) : Env :=
  { e with
    attack := hiNibble value
    decay := loNibble value
    ratePeriod :=
      match e.state with
      | .attack => ratePeriodAt cfg (hiNibble value)
      | .decaySustain => ratePeriodAt cfg (loNibble value)
      | .release => e.ratePeriod }

/-- WR SUSTAIN_RELEASE_v (R192). -/
def Env.writeSustainRelease (cfg : Cfg) (value : Byte) (e : Env) : Env :=
  { e with
    sustain := hiNibble value
    release := loNibble value
    ratePeriod :=
      match e.state with
      | .release => ratePeriodAt cfg (loNibble value)
      | .attack => e.ratePeriod
      | .decaySustain => e.ratePeriod }

/-! ## The per-cycle step -/

/-- The rate counter after its increment and wrap, before the comparison (R194). -/
def Env.nextRate (cfg : Cfg) (e : Env) : BitVec 15 :=
  if 0x7FFF < e.rateCounter.toNat + 1 then BitVec.ofNat 15 cfg.rateWrapTo.val else e.rateCounter + 1

/-- R194: the rate counter, and whether it matched. -/
def Env.rateTick (cfg : Cfg) (e : Env) : Env × Bool :=
  if e.nextRate cfg = e.ratePeriod then ({ e with rateCounter := 0 }, true)
  else ({ e with rateCounter := e.nextRate cfg }, false)

/-- R195: the exponential counter and the zero hold, and whether the envelope steps. -/
def Env.expTick (e : Env) : Env × Bool :=
  if e.state = .attack then ({ e with exponentialCounter := 0 }, !e.holdZero)
  else if e.exponentialCounter + 1 = e.exponentialCounterPeriod then ({ e with exponentialCounter := 0 }, !e.holdZero)
  else ({ e with exponentialCounter := e.exponentialCounter + 1 }, false)

/-- ATTACK step (R196). -/
def Env.attackStep (cfg : Cfg) (e : Env) : Env :=
  if e.envelopeCounter + 1 = 0xFF then
    { e with envelopeCounter := e.envelopeCounter + 1, state := .decaySustain, ratePeriod := ratePeriodAt cfg e.decay }
  else { e with envelopeCounter := e.envelopeCounter + 1 }

/-- DECAY_SUSTAIN step (R197). -/
def Env.decayStep (e : Env) : Env :=
  if e.envelopeCounter = sustainLevel e.sustain then e else { e with envelopeCounter := e.envelopeCounter - 1 }

/-- RELEASE step (R198). -/
def Env.releaseStep (e : Env) : Env := { e with envelopeCounter := e.envelopeCounter - 1 }

/-- The step of the current state (R193 line 3). -/
def Env.amplitudeStep (cfg : Cfg) (e : Env) : Env :=
  match e.state with
  | .attack => e.attackStep cfg
  | .decaySustain => e.decayStep
  | .release => e.releaseStep

/-- R199: the exponential period re-derived from the new counter value, and `holdZero` set at 0. -/
def Env.rederive (e : Env) : Env :=
  { e with
    exponentialCounterPeriod := (expPeriodAt e.envelopeCounter).getD e.exponentialCounterPeriod
    holdZero := e.holdZero || decide (e.envelopeCounter = 0) }

/-- `env.one()` (R193). -/
def Env.one (cfg : Cfg) (e : Env) : Env :=
  let (e1, isMatch) := e.rateTick cfg
  if isMatch then
    let (e2, isStep) := e1.expTick
    if isStep then (e2.amplitudeStep cfg).rederive else e2
  else e1

end Sys2Proof.Machine
end

