-- ==== Sys2Proof/Machine/Cutoff.lean ====
section
/-! DEFINITION. The cutoff table and the angular frequency (44_filter.md R245, R262), and the acceptance of calibration points (R264). The
table is a function of the model and its calibration, so it is never out of date (R263, 20_memory.md R81). -/

namespace Sys2Proof.Machine

/-! ## The spline (R262) -/

/-- Point i of a piece. -/
def knotAt (p : List Knot) (i : Nat) : Knot := p.getD i ⟨0, 0⟩

/-- The slope of the chord between two points. -/
def chord (a b : Knot) : Rat := ((b.y : Rat) - a.y) / ((b.x : Rat) - a.x)

/-- `s_i`, the slope of the chord from point i to point i + 1. -/
def chordSlope (p : List Knot) (i : Nat) : Rat := chord (knotAt p i) (knotAt p (i + 1))

/-- `k_i` at an interior point: the slope of the chord between its two neighbours. -/
def interiorSlope (p : List Knot) (i : Nat) : Rat := chord (knotAt p (i - 1)) (knotAt p (i + 1))

/-- `k_i`: at the two ends the slope that makes the second derivative 0 there; with two points a straight line. -/
def knotSlope (p : List Knot) (i : Nat) : Rat :=
  let n := p.length
  if n = 2 then chordSlope p 0
  else if i = 0 then (3 * chordSlope p 0 - interiorSlope p 1) / 2
  else if i = n - 1 then (3 * chordSlope p (n - 2) - interiorSlope p (n - 2)) / 2
  else interiorSlope p i

/-- The cubic on [a.x, b.x] with end values a.y, b.y and end slopes ka, kb. -/
def hermite (a b : Knot) (ka kb : Rat) (x : Nat) : Rat :=
  let h : Rat := (b.x : Rat) - a.x
  let u : Rat := ((x : Rat) - a.x) / h
  (2 * u ^ 3 - 3 * u ^ 2 + 1) * a.y + (u ^ 3 - 2 * u ^ 2 + u) * h * ka +
    (-2 * u ^ 3 + 3 * u ^ 2) * b.y + (u ^ 3 - u ^ 2) * h * kb

/-- The index i of the first interval [x_i, x_{i+1}] whose right end is not below x. -/
def segmentIndex : List Knot → Nat → Nat
  | _ :: b :: rest, x => if x ≤ b.x then 0 else segmentIndex (b :: rest) x + 1
  | _, _ => 0

/-- `f(x)` of one piece. -/
def splineAt (p : List Knot) (x : Nat) : Rat :=
  let i := segmentIndex p x
  hermite (knotAt p i) (knotAt p (i + 1)) (knotSlope p i) (knotSlope p (i + 1)) x

/-- `trunc(max(0, f))`. -/
def clampHz (f : Rat) : Nat := if f ≤ 0 then 0 else f.floor.toNat

/-- The piece covers x: x_0 ≤ x ≤ x_{n-1}. -/
def pieceCovers (x : Nat) (p : List Knot) : Bool :=
  decide ((knotAt p 0).x ≤ x) && decide (x ≤ (knotAt p (p.length - 1)).x) && decide (2 ≤ p.length)

/-- `CUTOFF_F0[m][c]` in Hz; where no piece covers c, a free value (93 U4). -/
def cutoffF0 (m : ChipModel) (cal : Calibration) (c : Nat) : Nat :=
  match cal.pieces.find? (pieceCovers c) with
  | some p => clampHz (splineAt p c)
  | none => Config.cutoffUncovered cal.install m c

/-! ## The angular frequency (R245) -/

/-- 10^60 times pi, truncated: the numerator of the approximation of pi the tables use (assumption log entry 8). -/
def piNumerator : Nat := 3141592653589793238462643383279502884197169399375105820974944

/-- The denominator of the approximation of pi. -/
def piDenominator : Nat := 10 ^ 60

/-- pi, to 60 decimal places. -/
def piApprox : Rat := (piNumerator : Rat) / piDenominator

/-- `w0` = trunc(2 * pi * f * W0_SCALE). -/
def w0OfHz (cfg : Cfg) (f : Nat) : Int := truncRat (2 * piApprox * f * cfg.w0Scale)

/-- `w0` at the filter's cutoff, for the current model and calibration. -/
def w0 (s : State) : Int :=
  w0OfHz s.cfg (cutoffF0 s.chip.chipModel (perModel s.calib s.chip.chipModel) s.filt.cutoff.toNat)

/-- `w0c_1`, the value CLK uses. -/
def w0ForClk (s : State) : S32 := BitVec.ofInt 32 (min (w0 s) s.cfg.w0Max1.toInt)

/-- `w0c_dt`, the value CLKN uses. -/
def w0ForClkn (s : State) : S32 := BitVec.ofInt 32 (min (w0 s) s.cfg.w0MaxDt.toInt)

/-! ## Accepting calibration points (R264) -/

/-- An operand that is an integer ≥ 0, as that integer. -/
def asNat : HostReal → Option Nat
  | .finite q => if q.den = 1 ∧ 0 ≤ q.num then some q.num.toNat else none
  | .nonFinite => none

/-- A point whose coordinates are in the domain: an integer control value in 0..2047 and an integer frequency ≥ 0. -/
def asKnot (p : CalibPoint) : Option Knot :=
  match asNat p.controlValue, asNat p.frequencyHz with
  | some x, some y => if x ≤ 2047 then some ⟨x, y⟩ else none
  | _, _ => none

/-- All the points, if every one is in the domain. -/
def asPiece : List CalibPoint → Option (List Knot)
  | [] => some []
  | p :: rest =>
    match asKnot p, asPiece rest with
    | some k, some ks => some (k :: ks)
    | _, _ => none

/-- Strictly increasing on both axes. -/
def strictlyIncreasing : List Knot → Bool
  | a :: b :: rest => decide (a.x < b.x) && decide (a.y < b.y) && strictlyIncreasing (b :: rest)
  | _ => true

/-- The piece CALIB installs, or none where one of the three checks of R264 fails. -/
def acceptCalibration (points : List CalibPoint) : Option (List Knot) :=
  if points.length < 2 ∨ 2048 < points.length then none
  else
    match asPiece points with
    | some p => if strictlyIncreasing p then some p else none
    | none => none

end Sys2Proof.Machine
end

