-- ==== Sys2Proof/Machine/Oscillator.lean ====
section
/-! DEFINITION. The oscillator: register writes, the per-cycle step, hard sync, the noise shift register, the waveform outputs
(40_oscillator.md, 41_noise_lfsr.md). -/

namespace Sys2Proof.Machine

/-! ## The noise shift register -/

/-- One shift: {r[21:0], r[22] XOR r[17]} (R170). -/
def lfsrShift (r : BitVec 23) : BitVec 23 :=
  r.extractLsb' 0 22 ++ BitVec.ofBool (r.getLsbD 22 ^^ r.getLsbD 17)

/-- The LFSR after a rising edge of `test` (R172). -/
def lfsrAfterTestRise (cfg : Cfg) (r : BitVec 23) : BitVec 23 := cfg.lfsrTestRise.getD r

/-- The LFSR bit that feeds noise output bit 4 + k (R175). -/
def noiseBit (cfg : Cfg) (r : BitVec 23) (k : Fin 8) : BitVec 1 := BitVec.ofBool (r.getLsbD cfg.noiseTap[k])

/-- The noise output: bits 11 to 4 tapped, bits 3 to 0 zero (R175). -/
def noise (cfg : Cfg) (r : BitVec 23) : BitVec 12 :=
  noiseBit cfg r 7 ++ noiseBit cfg r 6 ++ noiseBit cfg r 5 ++ noiseBit cfg r 4 ++
  noiseBit cfg r 3 ++ noiseBit cfg r 2 ++ noiseBit cfg r 1 ++ noiseBit cfg r 0 ++ 0#4

/-! ## Register writes -/

/-- WR FREQ_LO_v (R140). -/
def Osc.writeFreqLo (value : Byte) (o : Osc) : Osc := { o with freq := withLoByte o.freq value }

/-- WR FREQ_HI_v (R141). -/
def Osc.writeFreqHi (value : Byte) (o : Osc) : Osc := { o with freq := withHiByte o.freq value }

/-- WR PW_LO_v (R142). -/
def Osc.writePwLo (value : Byte) (o : Osc) : Osc := { o with pulseWidth := withPwLo o.pulseWidth value }

/-- WR PW_HI_v (R143). -/
def Osc.writePwHi (value : Byte) (o : Osc) : Osc := { o with pulseWidth := withPwHi o.pulseWidth value }

/-- WR CONTROL_v, oscillator part (R144), lines 5 to 9: what an edge of `test` does to the accumulator and the LFSR. -/
def Osc.testEdge (cfg : Cfg) (new : Bool) (o : Osc) : Osc :=
  if setEdge o.test new then
    { o with accumulator := 0, shiftRegister := lfsrAfterTestRise cfg o.shiftRegister }
  else if clearEdge o.test new then
    { o with shiftRegister := cfg.lfsrReseed }
  else o

/-- WR CONTROL_v, oscillator part (R144; bit layout R27). -/
def Osc.writeControl (cfg : Cfg) (value : Byte) (o : Osc) : Osc :=
  { Osc.testEdge cfg (value.getLsbD 3) o with
    waveformSelect := hiNibble value
    ringMod := value.getLsbD 2
    syncEnable := value.getLsbD 1
    test := value.getLsbD 3 }

/-! ## The per-cycle step -/

/-- The accumulator one cycle on (R145). -/
def Osc.nextAccumulator (o : Osc) : BitVec 24 := o.accumulator + o.freq.setWidth 24

/-- `osc[v].one()` (R145). With `test` set nothing changes, `msbRising` included. -/
def Osc.one (o : Osc) : Osc :=
  if o.test then o
  else
    { o with
      accumulator := o.nextAccumulator
      msbRising := rising o.accumulator o.nextAccumulator 23
      shiftRegister := if rising o.accumulator o.nextAccumulator 19 then lfsrShift o.shiftRegister else o.shiftRegister }

/-- `osc[v].synchronize()` (R146). -/
def synchronize (v : VoiceIdx) (oscs : PerVoice Osc) : PerVoice Osc :=
  if syncFires oscs v then
    setVoice oscs (syncDest v) { ofVoice oscs (syncDest v) with accumulator := 0 }
  else oscs

/-- The three calls of one cycle, in the order v = 0, 1, 2 (R300 step 4). -/
def synchronizeAll (oscs : PerVoice Osc) : PerVoice Osc :=
  synchronize .v2 (synchronize .v1 (synchronize .v0 oscs))

/-- The oscillators' share of one cycle: all three advance, then all three synchronize (R300 steps 3 and 4). -/
def clockOscillators (oscs : PerVoice Osc) : PerVoice Osc := synchronizeAll (mapVoices Osc.one oscs)

/-! ## The waveform output -/

/-- Triangle (R151): the ring-modulation partner is the sync source. -/
def triangle (oscs : PerVoice Osc) (v : VoiceIdx) : BitVec 12 :=
  let a := (ofVoice oscs v).accumulator
  let p := (ofVoice oscs (syncSource v)).accumulator
  let msb := a.getLsbD 23 ^^ ((ofVoice oscs v).ringMod && p.getLsbD 23)
  (if msb then ~~~a else a).extractLsb' 11 12

/-- Sawtooth (R152). -/
def sawtooth (o : Osc) : BitVec 12 := o.accumulator.extractLsb' 12 12

/-- Pulse (R153). -/
def pulse (o : Osc) : BitVec 12 := if pulseHigh o then 0xFFF else 0x000

/-- A table byte shifted left by four (R155). -/
def tableSample (b : Byte) : BitVec 12 := b ++ 0#4

/-- `osc[v].output()` (R150): the 16 combinations. Noise with anything else gives 0, and so does no waveform at all. -/
def waveOutput (cfg : Cfg) (m : ChipModel) (oscs : PerVoice Osc) (v : VoiceIdx) : BitVec 12 :=
  let o := ofVoice oscs v
  match o.waveformSelect.toNat with
  | 0x1 => triangle oscs v
  | 0x2 => sawtooth o
  | 0x3 => tableSample (Config.waveST m (sawtooth o))
  | 0x4 => pulse o
  | 0x5 => tableSample (Config.wavePT m (triangle oscs v >>> 1)) &&& pulse o
  | 0x6 => tableSample (Config.wavePS m (sawtooth o)) &&& pulse o
  | 0x7 => tableSample (Config.wavePST m (sawtooth o)) &&& pulse o
  | 0x8 => noise cfg o.shiftRegister
  | _ => 0x000

end Sys2Proof.Machine
end

