-- ==== Sys2Proof/Machine/Voice.lean ====
section
/-! DEFINITION. The voice: oscillator times envelope, and mute (43_voice.md). -/

namespace Sys2Proof.Machine

/-- `(w - WAVE_ZERO[m]) * e + VOICE_DC[m]` (R230). -/
def shapeVoice (cfg : Cfg) (m : ChipModel) (w : BitVec 12) (e : Byte) : S32 :=
  (w.setWidth 32 - perModel cfg.waveZero m) * e.setWidth 32 + perModel cfg.voiceDC m

/-- `voice[v].output()` (R230): 0 when muted. -/
def voiceOutput (s : State) (v : VoiceIdx) : S32 :=
  if ofVoice s.muted v then 0
  else shapeVoice s.cfg s.chip.chipModel (waveOutput s.cfg s.chip.chipModel s.osc v) (ofVoice s.env v).envelopeCounter

end Sys2Proof.Machine
end

