-- ==== Sys2Proof/Machine/Filter.lean ====
section
/-! DEFINITION. The filter: register writes, the voice mixer and routing, the integrator step for CLK and for CLKN, the output
(44_filter.md). -/

namespace Sys2Proof.Machine

/-! ## Register writes -/

/-- WR FC_LO (R240). -/
def Filt.writeFcLo (value : Byte) (f : Filt) : Filt := { f with cutoff := withFcLo f.cutoff value }

/-- WR FC_HI (R241). -/
def Filt.writeFcHi (value : Byte) (f : Filt) : Filt := { f with cutoff := withFcHi f.cutoff value }

/-- WR RES_FILT (R242). -/
def Filt.writeResFilt (value : Byte) (f : Filt) : Filt :=
  { f with resonance := hiNibble value, routing := loNibble value }

/-- WR MODE_VOL (R243). -/
def Filt.writeModeVol (value : Byte) (f : Filt) : Filt :=
  { f with voice3Disconnect := value.getLsbD 7, outputSelect := value.extractLsb' 4 3, volume := loNibble value }

/-! ## Input side (R250, R251) -/

/-- The four scaled inputs `in[0..3]`. -/
structure MixInputs where
  in0 : S32
  in1 : S32
  in2 : S32
  in3 : S32
  deriving DecidableEq, Repr

/-- R250: the voices and the external input shifted right by 7, voice 2 removed if disconnected. -/
def mixInputs (s : State) : MixInputs :=
  { in0 := asr (voiceOutput s .v0) 7
    in1 := asr (voiceOutput s .v1) 7
    in2 := if voice3Removed s.filt then 0 else asr (voiceOutput s .v2) 7
    in3 := asr s.chip.externalInput 7 }

/-- `Vi`: the sum of the routed inputs (R251). -/
def routedSum (routing : BitVec 4) (x : MixInputs) : S32 :=
  select32 (routing.getLsbD 0) x.in0 + select32 (routing.getLsbD 1) x.in1 +
  select32 (routing.getLsbD 2) x.in2 + select32 (routing.getLsbD 3) x.in3

/-- `Vnf`: the sum of the inputs that are not routed (R251). -/
def unroutedSum (routing : BitVec 4) (x : MixInputs) : S32 :=
  select32 (!routing.getLsbD 0) x.in0 + select32 (!routing.getLsbD 1) x.in1 +
  select32 (!routing.getLsbD 2) x.in2 + select32 (!routing.getLsbD 3) x.in3

/-! ## The integrator -/

/-- `asr(wrap32(bp * q), 10) - lp - Vi`. -/
def highpassOf (q vi bp lp : S32) : S32 := asr (bp * q) 10 - lp - vi

/-- One integration step with increments `asr(w * x, shift)`, in the order of `FILTER_ORDER` (R253, R255). -/
def Filt.integrate (order : FilterOrder) (w : S32) (shift : Nat) (q vi : S32) (f : Filt) : Filt :=
  match order with
  | .doc =>
    let hp := highpassOf q vi f.bandpassState f.lowpassState
    let bp := f.bandpassState - asr (w * hp) shift
    let lp := f.lowpassState - asr (w * bp) shift
    { f with highpassState := hp, bandpassState := bp, lowpassState := lp }
  | .reference =>
    let dbp := asr (w * f.highpassState) shift
    let dlp := asr (w * f.bandpassState) shift
    let bp := f.bandpassState - dbp
    let lp := f.lowpassState - dlp
    { f with highpassState := highpassOf q vi bp lp, bandpassState := bp, lowpassState := lp }

/-- The filter with R251's `unfilteredSum` stored. -/
def storeUnfiltered (s : State) : Filt := { s.filt with unfilteredSum := unroutedSum s.filt.routing (mixInputs s) }

/-- `filt.one()` (R253). -/
def filterOne (s : State) : State :=
  s.setFilt ((storeUnfiltered s).integrate s.cfg.filterOrder (w0ForClk s) 20 (invQAt s.cfg s.filt.resonance)
    (routedSum s.filt.routing (mixInputs s)))

/-- One sub-step of `filt.bulk` over k cycles (R255 lines 5 to 8). -/
def Filt.bulkStep (order : FilterOrder) (w q vi : S32) (k : Nat) (f : Filt) : Filt :=
  f.integrate order (asr (w * BitVec.ofNat 32 k) 6) 14 q vi

/-- `filt.bulk(delta)` (R255): the inputs are read once, then sub-steps of at most `FILT_BULK_STEP` cycles. -/
def filterBulk (delta : Nat) (s : State) : State :=
  s.setFilt (subSteps s.cfg.filtBulkStep
    (Filt.bulkStep s.cfg.filterOrder (w0ForClkn s) (invQAt s.cfg s.filt.resonance)
      (routedSum s.filt.routing (mixInputs s)))
    delta delta (storeUnfiltered s))

/-! ## Output side (R258) -/

/-- `Vf`: the chosen subset of the three states. -/
def Filt.selectedSum (f : Filt) : S32 :=
  select32 (f.outputSelect.getLsbD 0) f.lowpassState + select32 (f.outputSelect.getLsbD 1) f.bandpassState +
  select32 (f.outputSelect.getLsbD 2) f.highpassState

/-- `filt.output()` (R258). -/
def Filt.output (cfg : Cfg) (m : ChipModel) (f : Filt) : S32 :=
  (f.unfilteredSum + f.selectedSum + perModel cfg.mixerDC m) * f.volume.setWidth 32

/-- `filt.output()` of the machine as it stands. -/
def filterOutput (s : State) : S32 := s.filt.output s.cfg s.chip.chipModel

end Sys2Proof.Machine
end

