-- ==== Sys2Proof/Machine/OutputStage.lean ====
section
/-! DEFINITION. The output stage and the raw output (45_output_stage.md; 46_chip_assembly.md R312). -/

namespace Sys2Proof.Machine

/-- The highpass state's target T (R281). -/
def Extf.hpTarget (tracks : HpTracks) (vi : S32) (x : Extf) : S32 :=
  match tracks with
  | .lowpass => x.lowpassState
  | .input => vi

/-- `extf.one()` with the stage enabled (R281); every right-hand side reads the old states. -/
def Extf.one (cfg : Cfg) (vi : S32) (x : Extf) : Extf :=
  { x with
    out := x.lowpassState - x.highpassState
    lowpassState := x.lowpassState + asr (asr cfg.extfW0LP 8 * (vi - x.lowpassState)) 12
    highpassState :=
      x.highpassState + asr (cfg.extfW0HP * (x.hpTarget cfg.extfHpTracks vi - x.highpassState)) 20 }

/-- One sub-step of `extf.bulk` over k cycles (R284). -/
def Extf.bulkStep (cfg : Cfg) (vi : S32) (k : Nat) (x : Extf) : Extf :=
  { x with
    out := x.lowpassState - x.highpassState
    lowpassState := x.lowpassState + asr (asr (cfg.extfW0LP * BitVec.ofNat 32 k) 8 * (vi - x.lowpassState)) 12
    highpassState :=
      x.highpassState +
        asr ((cfg.extfW0HP * BitVec.ofNat 32 k) * (x.hpTarget cfg.extfHpTracks vi - x.highpassState)) 20 }

/-- The disabled mode (R283): the raw mix less the DC bias, both states zeroed. -/
def Extf.passThrough (cfg : Cfg) (m : ChipModel) (vi : S32) (x : Extf) : Extf :=
  { x with lowpassState := 0, highpassState := 0, out := vi - perModel cfg.extfDC m }

/-- The output stage's share of CLK (R300 step 6). -/
def outputOne (s : State) : State :=
  s.setExtf (if s.extf.enabled then s.extf.one s.cfg (filterOutput s)
    else s.extf.passThrough s.cfg s.chip.chipModel (filterOutput s))

/-- The output stage's share of CLKN (R303 step 5). -/
def outputBulk (delta : Nat) (s : State) : State :=
  s.setExtf (if s.extf.enabled then subSteps s.cfg.extfBulkStep (Extf.bulkStep s.cfg (filterOutput s)) delta delta s.extf
    else s.extf.passThrough s.cfg s.chip.chipModel (filterOutput s))

/-- `raw()`, the result of OUT (R312): `sat16(tdiv(extf.out, OUT_DIVISOR))`. -/
def rawOutput (s : State) : S16 := sat16 (tdiv s.extf.out.toInt s.cfg.outDivisor)

end Sys2Proof.Machine
end

