-- ==== Sys2Proof/Machine/Cycle.lean ====
section
/-! DEFINITION. One cycle and several cycles at once: the intra-cycle order of 46_chip_assembly.md R300, the aging of the bus value (R301),
and CLKN (R303). -/

namespace Sys2Proof.Machine

/-- Aging of the bus value by one cycle (R301). -/
def Chip.age (c : Chip) : Chip :=
  if c.busValueTtl = 0 then c
  else if c.busValueTtl - 1 = 0 then { c with busValueTtl := 0, busValue := 0 }
  else { c with busValueTtl := c.busValueTtl - 1 }

/-- Aging of the bus value by delta cycles at once (R303 line 2). -/
def Chip.ageBy (delta : Nat) (c : Chip) : Chip :=
  let ttl : BitVec 16 := BitVec.ofNat 16 (c.busValueTtl.toNat - delta)
  { c with busValueTtl := ttl, busValue := if ttl = 0 then 0 else c.busValue }

/-- Step 1 of CLK. -/
def ageBus (s : State) : State := s.setChip s.chip.age

/-- The envelopes' share of a cycle (R300 step 2). -/
def clockEnvelopes (cfg : Cfg) (envs : PerVoice Env) : PerVoice Env := mapVoices (Env.one cfg) envs

/-- Steps 2, 3 and 4 of a cycle: envelopes, oscillators, hard sync. -/
def clockVoices (s : State) : State :=
  (s.setEnv (clockEnvelopes s.cfg s.env)).setOsc (clockOscillators s.osc)

/-- CLK's effect: one chip cycle in the strict order of R300. -/
def clockOne (s : State) : State := outputOne (filterOne (clockVoices (ageBus s)))

/-- CLKN's effect: delta cycles at once (R303); 0 cycles change nothing at all. -/
def clockN (delta : Nat) (s : State) : State :=
  if delta = 0 then s
  else outputBulk delta (filterBulk delta (clockVoices^[delta] (s.setChip (s.chip.ageBy delta))))

end Sys2Proof.Machine
end

