-- ==== Sys2Proof/Machine/Bus.lean ====
section
/-! DEFINITION. The register bus: one operation per register kind, and `MemWrite` / `MemRead`, the dispatch by offset
(46_chip_assembly.md R291, R295; 20_memory.md R70 to R77). -/

namespace Sys2Proof.Machine

/-! ## Writes: the bus latch, then the register (R291) -/

/-- WR FREQ_LO_v. -/
def busFreqLo (v : VoiceIdx) (value : Byte) (s : State) : State := modifyOsc v (Osc.writeFreqLo value) (latchBus value s)

/-- WR FREQ_HI_v. -/
def busFreqHi (v : VoiceIdx) (value : Byte) (s : State) : State := modifyOsc v (Osc.writeFreqHi value) (latchBus value s)

/-- WR PW_LO_v. -/
def busPwLo (v : VoiceIdx) (value : Byte) (s : State) : State := modifyOsc v (Osc.writePwLo value) (latchBus value s)

/-- WR PW_HI_v. -/
def busPwHi (v : VoiceIdx) (value : Byte) (s : State) : State := modifyOsc v (Osc.writePwHi value) (latchBus value s)

/-- WR CONTROL_v: the oscillator part and the envelope part of the same byte (R144, R190). -/
def busControl (v : VoiceIdx) (value : Byte) (s : State) : State :=
  modifyEnv v (Env.writeControl s.cfg value) (modifyOsc v (Osc.writeControl s.cfg value) (latchBus value s))

/-- WR ATTACK_DECAY_v. -/
def busAttackDecay (v : VoiceIdx) (value : Byte) (s : State) : State :=
  modifyEnv v (Env.writeAttackDecay s.cfg value) (latchBus value s)

/-- WR SUSTAIN_RELEASE_v. -/
def busSustainRelease (v : VoiceIdx) (value : Byte) (s : State) : State :=
  modifyEnv v (Env.writeSustainRelease s.cfg value) (latchBus value s)

/-- WR FC_LO. -/
def busFcLo (value : Byte) (s : State) : State := modifyFilt (Filt.writeFcLo value) (latchBus value s)

/-- WR FC_HI. -/
def busFcHi (value : Byte) (s : State) : State := modifyFilt (Filt.writeFcHi value) (latchBus value s)

/-- WR RES_FILT. -/
def busResFilt (value : Byte) (s : State) : State := modifyFilt (Filt.writeResFilt value) (latchBus value s)

/-- WR MODE_VOL. -/
def busModeVol (value : Byte) (s : State) : State := modifyFilt (Filt.writeModeVol value) (latchBus value s)

/-- `MemWrite(offset, 1, value)`: the effect of a WR on the chip (R291). -/
def busWrite (offset value : Byte) (s : State) : State :=
  match writeTarget offset with
  | .freqLo v => busFreqLo v value s
  | .freqHi v => busFreqHi v value s
  | .pwLo v => busPwLo v value s
  | .pwHi v => busPwHi v value s
  | .control v => busControl v value s
  | .attackDecay v => busAttackDecay v value s
  | .sustainRelease v => busSustainRelease v value s
  | .fcLo => busFcLo value s
  | .fcHi => busFcHi value s
  | .resFilt => busResFilt value s
  | .modeVol => busModeVol value s
  | .unmapped => latchBus value s

/-! ## Reads (R295 to R299) -/

/-- OSC3: bits [11:4] of oscillator 2's waveform output at this moment (R297). -/
def osc3Value (s : State) : Byte := (waveOutput s.cfg s.chip.chipModel s.osc .v2).extractLsb' 4 8

/-- ENV3: the envelope counter of voice 2 (R298). -/
def env3Value (s : State) : Byte := s.env.v2.envelopeCounter

/-- `MemRead(offset, 1)`: the byte a RD returns (R295). -/
def busRead (offset : Byte) (s : State) : Byte :=
  match readSource offset with
  | .pot => potValue
  | .osc3 => osc3Value s
  | .env3 => env3Value s
  | .bus => s.chip.busValue

/-- A RD changes no state; its byte goes to the host (R295). -/
def answerByte (b : Byte) (s : State) : Outcome := answer (.byte b) s

end Sys2Proof.Machine
end

