-- ==== Sys2Proof/Machine/Clock.lean ====
section
/-! DEFINITION. The meanings of CLK, CLKN, RST, EXTIN and OUT (46_chip_assembly.md R300 to R312). -/

namespace Sys2Proof.Machine

/-- CLK: one chip cycle (R300). -/
def execClk (s : State) : Outcome := done (clockOne s)

/-- CLKN: delta cycles at once (R303). -/
def execClkn (delta : Nat) (s : State) : Outcome := done (clockN delta s)

/-- The chip after RST: every run-time field at its reset value, the configuration, the external input and the resampler kept
(R305). It is no edge for the detectors of `test` and gate. -/
def resetChip (s : State) : State :=
  { s with
    osc := everyVoice (Osc.afterRst s.cfg)
    env := everyVoice (Env.afterRst s.cfg)
    filt := Filt.afterRst
    extf := s.extf.afterRst
    chip := s.chip.afterRst }

/-- RST (R305). -/
def execRst (s : State) : Outcome := done (resetChip s)

/-- `chip.externalInput` for a sample: `EXTIN_SCALE` at it, by default the sample sign-extended, times 16, times 3 (R310). -/
def scaleExternal (cfg : Cfg) (sample : S16) : S32 :=
  match cfg.extinScale.find? (fun p => p.1 == sample) with
  | some p => p.2
  | none => sext32 sample * 16 * 3

/-- EXTIN (R310). -/
def execExtin (sample : S16) (s : State) : Outcome :=
  done (s.setChip { s.chip with externalInput := scaleExternal s.cfg sample })

/-- OUT (R312): the raw output, no state change. -/
def execOut (s : State) : Outcome := answer (.sample (rawOutput s)) s

end Sys2Proof.Machine
end

