-- ==== Sys2Proof/Machine/Fir.lean ====
section
/-! DEFINITION. The design of the FIR tables (47_resampler.md R347, R348). The real-number formula is evaluated in rationals with 40 decimal
places kept, far below one unit of a coefficient; a table entry is that value plus a free deviation of at most one unit (assumption
log entry 6). -/

namespace Sys2Proof.Machine

/-! ## Real functions on a decimal grid -/

/-- Round down to 40 decimal places. -/
def grid (r : Rat) : Rat := (((r * 10 ^ 40).floor : Int) : Rat) / 10 ^ 40

/-- The terms of the sine series from `term` on; `n` is the exponent of `term`. -/
def sineTerms (x : Rat) : (fuel n : Nat) → (term : Rat) → Rat
  | 0, _, _ => 0
  | fuel + 1, n, term => term + sineTerms x fuel (n + 2) (grid (-term * x * x / ((n + 1) * (n + 2))))

/-- An angle in half turns brought into [-1, 1]. -/
def reduceTurns (r : Rat) : Rat := r - 2 * ((r / 2 + 1 / 2).floor : Int)

/-- sin(pi * r). -/
def sinPi (r : Rat) : Rat :=
  let q := reduceTurns r
  let q := if q > 1 / 2 then 1 - q else if q < -1 / 2 then -1 - q else q
  let x := grid (piApprox * q)
  sineTerms x 30 1 x

/-- The running sum of R348 after the term numbered n was added: more terms follow until one is below 10^-6 of the sum. -/
def besselTerms (quarter : Rat) : (fuel n : Nat) → (sum term : Rat) → Rat
  | 0, _, sum, _ => sum
  | fuel + 1, n, sum, term =>
    if term < sum / 1000000 then sum
    else
      let next := grid (term * quarter / ((n + 1) * (n + 1)))
      besselTerms quarter fuel (n + 1) (sum + next) next

/-- `I0(x)` (R348), given (x / 2)^2. -/
def besselI0 (quarter : Rat) : Rat := besselTerms quarter 100 0 1 1

/-! ## Design constants -/

/-- `A` = -20 * log10(1 / 65536), to 60 decimal places. -/
def attenuation : Rat :=
  96329598612473982468396446311837768565820762067874733219338756 / 10 ^ 60

/-- `beta` = 0.1102 * (A - 8.7). -/
def kaiserBeta : Rat := 1102 / 10000 * (attenuation - 87 / 10)

/-- `2 * pass / fs`. -/
def firPassRatio (d : FirDesign) : Rat := 2 * d.passbandHz / d.outputSampleHz

/-- `cpsf` = fc / fs. -/
def firCps (d : FirDesign) : Rat := d.chipClockHz / d.outputSampleHz

/-- `N`, the filter order, made even. -/
def firOrder (d : FirDesign) : Nat :=
  let dw := (1 - firPassRatio d) * piApprox
  let n := (truncRat ((attenuation - 795 / 100) / (2285 / 1000 * dw) + 1 / 2)).toNat
  if n % 2 = 1 then n + 1 else n

/-- `firN`, the filter length in cycles, made odd. -/
def firLength (d : FirDesign) : Nat :=
  let n := (truncRat (firOrder d * firCps d)).toNat + 1
  if n % 2 = 0 then n + 1 else n

/-- `res`: `FIR_RES_INTERPOLATE` or `FIR_RES_FAST`. -/
def firResolution (cfg : Cfg) : Strategy → Nat
  | .resampleFast => cfg.firResFast
  | .resampleInterpolate => cfg.firResInterpolate
  | .fast => cfg.firResInterpolate
  | .interpolate => cfg.firResInterpolate

/-- The least power of two that is not below m. -/
def powerOfTwoAbove (m : Nat) : Nat := if m ≤ 1 then 1 else 2 ^ (Nat.log2 (m - 1) + 1)

/-- `firRes` = 2 ^ ceil(log2(res / cpsf)). -/
def firTables (cfg : Cfg) (d : FirDesign) : Nat :=
  powerOfTwoAbove ((firResolution cfg d.strategy : Rat) / firCps d).ceil.toNat

/-! ## The coefficients -/

/-- `kaiser` at temp. -/
def kaiser (temp : Rat) : Rat :=
  if temp * temp ≤ 1 then
    besselI0 (kaiserBeta * kaiserBeta * (1 - temp * temp) / 4) / besselI0 (kaiserBeta * kaiserBeta / 4)
  else 0

/-- `sinc` at wt = pi * r. -/
def sincPi (r : Rat) : Rat :=
  let wt := piApprox * r
  if 1 / 1000000 ≤ wt ∨ wt ≤ -1 / 1000000 then sinPi r / wt else 1

/-- `trunc(val + 0.5)` for table t and entry j, by the formula of R347. -/
def firNominal (d : FirDesign) (firN firRes : Nat) (t : Int) (j : Nat) : Int :=
  let h : Int := (((firN - 1) / 2 : Nat) : Int)
  let jx : Rat := (((j : Int) - h : Int) : Rat) - (t : Rat) / firRes
  let wcOverPi : Rat := (firPassRatio d + 1) / 2
  let val := 2 ^ d.shift * d.filterScale * (1 / firCps d) * wcOverPi *
    sincPi (wcOverPi * jx / firCps d) * kaiser (jx / h)
  truncRat (val + 1 / 2)

/-- R347 gives entry (t, j) a value: it lies inside the tables, and the half-length h is not 0. -/
def firStated (firN firRes : Nat) (t : Int) (j : Nat) : Bool :=
  decide (0 ≤ t) && decide (t < firRes) && decide (j < firN) && decide (1 < firN)

/-- `rs.FIR[t][j]`. An entry R347 gives no value for, or whose value is no s16, is a free value. -/
def firEntry (rs : Resampler) (t : Int) (j : Nat) : S16 :=
  if firStated rs.firN rs.firRes t j then
    let y := firNominal rs.firDesign rs.firN rs.firRes t j + ((Config.firDeviation rs.firDesign t j).val : Int) - 1
    if -32768 ≤ y ∧ y ≤ 32767 then BitVec.ofInt 16 y else Config.firUnstated rs.firDesign t j
  else Config.firUnstated rs.firDesign t j

end Sys2Proof.Machine
end

