-- ==== Sys2Proof/Machine/Sampling.lean ====
section
/-! DEFINITION. SAMPLING: its checks in their order and what a success installs (47_resampler.md R340, R341, R343). -/

namespace Sys2Proof.Machine

/-- A frequency that is finite and above 0 (R340 line 1). -/
def positiveReal : HostReal → Option Rat
  | .finite q => if 0 < q then some q else none
  | .nonFinite => none

/-- `c` = trunc(chipClockHz / outputSampleHz * 65536 + 0.5) (R343). -/
def samplingRatio (fc fs : Rat) : Int := truncRat (fc / fs * 65536 + 1 / 2)

/-- The passband a design uses; `auto` by R341. -/
def passbandOf (p : Passband) (fs : Rat) : Rat :=
  match p with
  | .hz q => q
  | .auto => if 9 / 10 ≤ 2 * 20000 / fs then 9 / 10 * fs / 2 else 20000

/-- An explicit passband above 0.9 * outputSampleHz / 2 (R340 line 7); `auto` never is. -/
def passbandTooHigh (p : Passband) (fs : Rat) : Bool :=
  match p with
  | .hz q => decide (9 / 10 * fs / 2 < q)
  | .auto => false

/-- The strategies that use the ring and the FIR tables. -/
def usesFir : Strategy → Bool
  | .resampleInterpolate => true
  | .resampleFast => true
  | .fast => false
  | .interpolate => false

/-- `checked` (R340 line 4). -/
def samplingChecked (cfg : Cfg) (s : Strategy) : Bool := cfg.samplingChecksAll || usesFir s

/-- The resampler with the FIR tables rebuilt and the ring zeroed (R340 lines 12 and 13). -/
def Resampler.rebuildFir (cfg : Cfg) (d : FirDesign) (rs : Resampler) : Resampler :=
  { rs with firN := firLength d, firRes := firTables cfg d, firDesign := d, sampleHistory := [], sampleIndex := 0 }

/-- What a successful SAMPLING installs (R340 lines 9 to 13). -/
def installSampling (cfg : Cfg) (args : SamplingArgs) (fc fs : Rat) (rs : Resampler) : Resampler :=
  let base : Resampler :=
    { rs with
      strategy := args.strategy
      cyclesPerSample := BitVec.ofInt 32 (samplingRatio fc fs)
      sampleOffset := 0
      samplePrev := 0 }
  if usesFir args.strategy then
    base.rebuildFir cfg
      { chipClockHz := fc, outputSampleHz := fs, passbandHz := passbandOf args.passbandHz fs,
        filterScale := args.filterScale, strategy := args.strategy, shift := cfg.firShift }
  else base

/-- The checks of R340 lines 3 to 8 on two usable frequencies: the first that fails, if any. -/
def samplingFailure (cfg : Cfg) (args : SamplingArgs) (fc fs : Rat) : Option ConfigCode :=
  let checked := samplingChecked cfg args.strategy
  if samplingRatio fc fs < 1 ∨ 2 ^ 30 < samplingRatio fc fs then some .frequency
  else if checked ∧ (cfg.ringSize : Rat) ≤ cfg.firN * fc / fs then some .ringOverflow
  else if checked ∧ passbandTooHigh args.passbandHz fs then some .passband
  else if checked ∧ (args.filterScale < 9 / 10 ∨ 1 < args.filterScale) then some .filterScale
  else none

/-- SAMPLING on the resampler: the new resampler, or the code of the first check that fails (R340, R383). -/
def setSampling (cfg : Cfg) (args : SamplingArgs) (rs : Resampler) : Except ConfigCode Resampler :=
  match positiveReal args.chipClockHz, positiveReal args.outputSampleHz with
  | some fc, some fs =>
    match samplingFailure cfg args fc fs with
    | some code => .error code
    | none => .ok (installSampling cfg args fc fs rs)
  | _, _ => .error .frequency

end Sys2Proof.Machine
end

