-- ==== Sys2Proof/Machine/Configure.lean ====
section
/-! DEFINITION. The meanings of MODEL, MUTE, EXTEN, SAMPLING and CALIB (46_chip_assembly.md R313 to R315, 47_resampler.md R340, 44_filter.md R264). -/

namespace Sys2Proof.Machine

/-- The chip model of a number (R313). -/
def modelOfNumber (number : Int) : Option ChipModel :=
  if number = 6581 then some .m6581 else if number = 8580 then some .m8580 else none

/-- MODEL (R313): no run-time state is touched. -/
def execModel (number : Int) (s : State) : Outcome :=
  match modelOfNumber number with
  | some m => answer .ok (s.setChip { s.chip with chipModel := m })
  | none => raiseConfigError .chipModel s

/-- `voice[v].muted <- flag` (R314). -/
def setMute (v : VoiceIdx) (flag : Bool) (s : State) : State := s.setMuted (setVoice s.muted v flag)

/-- MUTE.v0 (R314). -/
def execMuteV0 (flag : Bool) (s : State) : Outcome := done (setMute .v0 flag s)

/-- MUTE.v1 (R314). -/
def execMuteV1 (flag : Bool) (s : State) : Outcome := done (setMute .v1 flag s)

/-- MUTE.v2 (R314). -/
def execMuteV2 (flag : Bool) (s : State) : Outcome := done (setMute .v2 flag s)

/-- EXTEN (R315): only the flag changes. -/
def execExten (flag : Bool) (s : State) : Outcome := done (s.setExtf { s.extf with enabled := flag })

/-- SAMPLING (R340). -/
def execSampling (args : SamplingArgs) (s : State) : Outcome :=
  match setSampling s.cfg args s.rs with
  | .ok rs => answer .ok (s.setRs rs)
  | .error code => raiseConfigError code s

/-- A new calibration of one piece for the current model (R264), under the next install number. -/
def installCalibration (piece : List Knot) (s : State) : State :=
  (s.setCalib (setPerModel s.calib s.chip.chipModel { pieces := [piece], install := s.installs })).setInstalls (s.installs + 1)

/-- CALIB (R264). -/
def execCalib (points : List CalibPoint) (s : State) : Outcome :=
  match acceptCalibration points with
  | some piece => answer .ok (installCalibration piece s)
  | none => raiseConfigError .calibration s

end Sys2Proof.Machine
end

