-- ==== Sys2Proof/Machine/Read.lean ====
section
/-! DEFINITION. The meanings of the RD rows (46_chip_assembly.md R295 to R299). A RD changes no state. -/

namespace Sys2Proof.Machine

/-- RD.POTX (R296). -/
def execRdPotx (s : State) : Outcome := answerByte potValue s

/-- RD.POTY (R296). -/
def execRdPoty (s : State) : Outcome := answerByte potValue s

/-- RD.OSC3 (R297). -/
def execRdOsc3 (s : State) : Outcome := answerByte (osc3Value s) s

/-- RD.ENV3 (R298). -/
def execRdEnv3 (s : State) : Outcome := answerByte (env3Value s) s

/-- RD.busValue_00_0F (R299). -/
def execRdBus000F (_offsetLow : BitVec 4) (s : State) : Outcome := answerByte s.chip.busValue s

/-- RD.busValue_10_17 (R299). -/
def execRdBus1017 (_offsetLow : BitVec 3) (s : State) : Outcome := answerByte s.chip.busValue s

/-- RD.busValue_18_18 (R299). -/
def execRdBus1818 (s : State) : Outcome := answerByte s.chip.busValue s

/-- RD.busValue_1D_1D (R299). -/
def execRdBus1D1D (s : State) : Outcome := answerByte s.chip.busValue s

/-- RD.busValue_1E_1F (R299). -/
def execRdBus1E1F (_offsetLow : BitVec 1) (s : State) : Outcome := answerByte s.chip.busValue s

/-- RD.busValue_20_3F (R299). -/
def execRdBus203F (_offsetLow : BitVec 5) (s : State) : Outcome := answerByte s.chip.busValue s

/-- RD.busValue_40_7F (R299). -/
def execRdBus407F (_offsetLow : BitVec 6) (s : State) : Outcome := answerByte s.chip.busValue s

/-- RD.busValue_80_FF (R299). -/
def execRdBus80FF (_offsetLow : BitVec 7) (s : State) : Outcome := answerByte s.chip.busValue s

end Sys2Proof.Machine
end

