-- ==== Sys2Proof/Machine/Resample.lean ====
section
/-! DEFINITION. RENDER and the four strategies (47_resampler.md R345, R350 to R355). All four have one skeleton: a loop that produces one
sample per iteration, and a tail. They differ in the rounding of the phase, in how cycles are clocked and in how a sample is formed. -/

namespace Sys2Proof.Machine

/-! ## The ring (R354) -/

/-- `push()`: clock one cycle and store the raw output. -/
def pushSample (s : State) : State :=
  let s1 := clockOne s
  s1.setRs { s1.rs with
    sampleHistory := historyWrite s1.rs.sampleHistory s1.rs.sampleIndex (rawOutput s1)
    sampleIndex := (s1.rs.sampleIndex + 1) % s1.cfg.ringSize }

/-- The ring entry `back` places before the write position, plus i: `sampleHistory[(sampleIndex - back + i) mod RINGSIZE]`. -/
def ringEntry (cfg : Cfg) (rs : Resampler) (back i : Nat) : S16 :=
  historyRead rs.sampleHistory (((rs.sampleIndex : Int) - back + i) % (cfg.ringSize : Int)).toNat

/-- `hist(i)`. -/
def hist (cfg : Cfg) (rs : Resampler) (i : Nat) : S16 := ringEntry cfg rs rs.firN i

/-- `histOlder(i)`: the same window one cycle back. -/
def histOlder (cfg : Cfg) (rs : Resampler) (i : Nat) : S16 := ringEntry cfg rs (rs.firN + 1) i

/-- `sum for j in 0..firN-1 of window(j) * rs.FIR[t][j]`. -/
def convolve (rs : Resampler) (window : Nat → S16) (t : Int) : S32 :=
  (List.range rs.firN).foldl (fun acc j => acc + sext32 (window j) * sext32 (firEntry rs t j)) 0

/-! ## What the strategies differ in -/

/-- `fast` rounds the sample instant to the nearest cycle: half a cycle is added to the phase (R350). -/
def phaseBias : Strategy → S32
  | .fast => 0x8000
  | .interpolate => 0
  | .resampleInterpolate => 0
  | .resampleFast => 0

/-- Clock n cycles one by one, keeping the raw output before the last (R351). -/
def clockKeepingPrev (n : Nat) (s : State) : State :=
  match n with
  | 0 => s
  | k + 1 =>
    let s1 := clockOne^[k] s
    clockOne (s1.setRs { s1.rs with samplePrev := rawOutput s1 })

/-- Clock n cycles as the strategy does. -/
def advanceCycles (strategy : Strategy) (n : Nat) (s : State) : State :=
  match strategy with
  | .fast => clockN n s
  | .interpolate => clockKeepingPrev n s
  | .resampleInterpolate => pushSample^[n] s
  | .resampleFast => pushSample^[n] s

/-- `y` of R351: between the output one cycle back and the current one, by the phase. -/
def interpolateSample (so : S32) (prev now : S16) : S16 :=
  (sext32 prev + asr (so * (sext32 now - sext32 prev)) 16).extractLsb' 0 16

/-- The table index `t` = asr(so * firRes, 16). -/
def tableIndex (rs : Resampler) : Int := (asr (rs.sampleOffset * BitVec.ofNat 32 rs.firRes) 16).toInt

/-- The position between table t and the next: `(so * firRes) mod 65536`. -/
def tablePosition (rs : Resampler) : S32 := (rs.sampleOffset * BitVec.ofNat 32 rs.firRes) &&& 0xFFFF

/-- `v1` of R352. -/
def firstConvolution (cfg : Cfg) (rs : Resampler) : S32 := convolve rs (hist cfg rs) (tableIndex rs)

/-- `v2` of R352: after the last table comes table 0, one cycle older. -/
def secondConvolution (cfg : Cfg) (rs : Resampler) : S32 :=
  if tableIndex rs + 1 = rs.firRes then convolve rs (histOlder cfg rs) 0
  else convolve rs (hist cfg rs) (tableIndex rs + 1)

/-- `v` of R352 before the last shift: the two convolutions blended. -/
def blendedConvolution (cfg : Cfg) (rs : Resampler) : S32 :=
  let v1 := firstConvolution cfg rs
  let v2 := secondConvolution cfg rs
  v1 + asr (tablePosition rs * (v2 - v1)) 16

/-- `sat16(asr(v, FIR_SHIFT))`. -/
def firSample (cfg : Cfg) (v : S32) : S16 := sat16 (asr v cfg.firShift).toInt

/-- The sample of this instant, after the cycles were clocked and the phase updated, and the state with what the strategy keeps. -/
def produceSample (strategy : Strategy) (s : State) : S16 × State :=
  match strategy with
  | .fast => (rawOutput s, s)
  | .interpolate =>
    (interpolateSample s.rs.sampleOffset s.rs.samplePrev (rawOutput s), s.setRs { s.rs with samplePrev := rawOutput s })
  | .resampleInterpolate => (firSample s.cfg (blendedConvolution s.cfg s.rs), s)
  | .resampleFast => (firSample s.cfg (firstConvolution s.cfg s.rs), s)

/-! ## The skeleton (R355) -/

/-- What a RENDER leaves: the state, the samples and `rem`. -/
structure Rendered where
  state : State
  samples : List S16
  rem : Nat
  deriving DecidableEq, Repr

/-- `nso`: the phase one sample on. -/
def nextPhase (strategy : Strategy) (rs : Resampler) : S32 :=
  rs.sampleOffset + rs.cyclesPerSample + phaseBias strategy

/-- `dts`: the whole cycles to the next sample. -/
def cyclesToSample (strategy : Strategy) (rs : Resampler) : Int := (asr (nextPhase strategy rs) 16).toInt

/-- One iteration's clocking and phase: dts cycles, then `so <- nso mod 65536` (less the bias). -/
def clockToSample (strategy : Strategy) (s : State) : State :=
  let s1 := advanceCycles strategy (cyclesToSample strategy s.rs).toNat s
  s1.setRs { s1.rs with sampleOffset := (nextPhase strategy s.rs &&& 0xFFFF) - phaseBias strategy }

/-- The tail: the cycles left are clocked and accounted for in the phase, or left for the next call (`RENDER_KEEPS_REMAINDER`). -/
def renderTail (strategy : Strategy) (d : Nat) (s : State) : Rendered :=
  if s.cfg.renderKeepsRemainder then { state := s, samples := [], rem := d }
  else
    let s1 := advanceCycles strategy d s
    { state := s1.setRs { s1.rs with sampleOffset := s1.rs.sampleOffset - BitVec.ofNat 32 (d * 65536) }
      samples := []
      rem := 0 }

/-- The loop: `room` samples still fit in the buffer, d cycles are left. -/
def renderLoop (strategy : Strategy) (room d : Nat) (s : State) : Rendered :=
  if (d : Int) < cyclesToSample strategy s.rs then renderTail strategy d s
  else
    match room with
    | 0 => { state := s, samples := [], rem := d }
    | room + 1 =>
      let p := produceSample strategy (clockToSample strategy s)
      let r := renderLoop strategy room ((d : Int) - cyclesToSample strategy s.rs).toNat p.2
      { r with samples := p.1 :: r.samples }

end Sys2Proof.Machine
end

