-- ==== Sys2Proof/Machine/Render.lean ====
section
/-! DEFINITION. The meaning of RENDER (47_resampler.md R355). -/

namespace Sys2Proof.Machine

/-- The answer of a RENDER: its samples and the cycles left go to the host (R355). -/
def answerRendered (r : Rendered) : Outcome := answer (.samples r.samples r.rem) r.state

/-- RENDER (R355), by the strategy the last successful SAMPLING installed. -/
def execRender (delta maxSamples : Nat) (s : State) : Outcome :=
  answerRendered (renderLoop s.rs.strategy maxSamples delta s)

end Sys2Proof.Machine
end

