-- ==== Sys2Proof/Machine/WriteFilter.lean ====
section
/-! DEFINITION. The meanings of the four WR rows of the filter registers (44_filter.md R240 to R243). -/

namespace Sys2Proof.Machine

/-- WR.FC_LO (R240). -/
def execWrFcLo (value : Byte) (s : State) : Outcome := done (busFcLo value s)

/-- WR.FC_HI (R241). -/
def execWrFcHi (value : Byte) (s : State) : Outcome := done (busFcHi value s)

/-- WR.RES_FILT (R242). -/
def execWrResFilt (value : Byte) (s : State) : Outcome := done (busResFilt value s)

/-- WR.MODE_VOL (R243). -/
def execWrModeVol (value : Byte) (s : State) : Outcome := done (busModeVol value s)

end Sys2Proof.Machine
end

