-- ==== Sys2Proof/Machine/WriteUnmapped.lean ====
section
/-! DEFINITION. The meanings of the WR rows of the offsets without a writable register (46_chip_assembly.md R291, 10_state.md R38). -/

namespace Sys2Proof.Machine

/-- WR.unmapped_19_19: the bus latch and nothing more (R291, R38). -/
def execWrUnmapped1919 (value : Byte) (s : State) : Outcome := done (latchBus value s)

/-- WR.unmapped_1A_1B: the bus latch and nothing more (R291, R38). -/
def execWrUnmapped1A1B (_offsetLow : BitVec 1) (value : Byte) (s : State) : Outcome := done (latchBus value s)

/-- WR.unmapped_1C_1F: the bus latch and nothing more (R291, R38). -/
def execWrUnmapped1C1F (_offsetLow : BitVec 2) (value : Byte) (s : State) : Outcome := done (latchBus value s)

/-- WR.unmapped_20_3F: the bus latch and nothing more (R291, R38). -/
def execWrUnmapped203F (_offsetLow : BitVec 5) (value : Byte) (s : State) : Outcome := done (latchBus value s)

/-- WR.unmapped_40_7F: the bus latch and nothing more (R291, R38). -/
def execWrUnmapped407F (_offsetLow : BitVec 6) (value : Byte) (s : State) : Outcome := done (latchBus value s)

/-- WR.unmapped_80_FF: the bus latch and nothing more (R291, R38). -/
def execWrUnmapped80FF (_offsetLow : BitVec 7) (value : Byte) (s : State) : Outcome := done (latchBus value s)

end Sys2Proof.Machine
end

