-- ==== Sys2Proof/Machine/WriteVoice.lean ====
section
/-! DEFINITION. The meanings of the 21 WR rows of the voice registers (46_chip_assembly.md R291). -/

namespace Sys2Proof.Machine

/-- WR.FREQ_LO_0 (R140). -/
def execWrFreqLo0 (value : Byte) (s : State) : Outcome := done (busFreqLo .v0 value s)

/-- WR.FREQ_HI_0 (R141). -/
def execWrFreqHi0 (value : Byte) (s : State) : Outcome := done (busFreqHi .v0 value s)

/-- WR.PW_LO_0 (R142). -/
def execWrPwLo0 (value : Byte) (s : State) : Outcome := done (busPwLo .v0 value s)

/-- WR.PW_HI_0 (R143). -/
def execWrPwHi0 (value : Byte) (s : State) : Outcome := done (busPwHi .v0 value s)

/-- WR.CONTROL_0 (R144, R190). -/
def execWrControl0 (value : Byte) (s : State) : Outcome := done (busControl .v0 value s)

/-- WR.ATTACK_DECAY_0 (R191). -/
def execWrAttackDecay0 (value : Byte) (s : State) : Outcome := done (busAttackDecay .v0 value s)

/-- WR.SUSTAIN_RELEASE_0 (R192). -/
def execWrSustainRelease0 (value : Byte) (s : State) : Outcome := done (busSustainRelease .v0 value s)

/-- WR.FREQ_LO_1 (R140). -/
def execWrFreqLo1 (value : Byte) (s : State) : Outcome := done (busFreqLo .v1 value s)

/-- WR.FREQ_HI_1 (R141). -/
def execWrFreqHi1 (value : Byte) (s : State) : Outcome := done (busFreqHi .v1 value s)

/-- WR.PW_LO_1 (R142). -/
def execWrPwLo1 (value : Byte) (s : State) : Outcome := done (busPwLo .v1 value s)

/-- WR.PW_HI_1 (R143). -/
def execWrPwHi1 (value : Byte) (s : State) : Outcome := done (busPwHi .v1 value s)

/-- WR.CONTROL_1 (R144, R190). -/
def execWrControl1 (value : Byte) (s : State) : Outcome := done (busControl .v1 value s)

/-- WR.ATTACK_DECAY_1 (R191). -/
def execWrAttackDecay1 (value : Byte) (s : State) : Outcome := done (busAttackDecay .v1 value s)

/-- WR.SUSTAIN_RELEASE_1 (R192). -/
def execWrSustainRelease1 (value : Byte) (s : State) : Outcome := done (busSustainRelease .v1 value s)

/-- WR.FREQ_LO_2 (R140). -/
def execWrFreqLo2 (value : Byte) (s : State) : Outcome := done (busFreqLo .v2 value s)

/-- WR.FREQ_HI_2 (R141). -/
def execWrFreqHi2 (value : Byte) (s : State) : Outcome := done (busFreqHi .v2 value s)

/-- WR.PW_LO_2 (R142). -/
def execWrPwLo2 (value : Byte) (s : State) : Outcome := done (busPwLo .v2 value s)

/-- WR.PW_HI_2 (R143). -/
def execWrPwHi2 (value : Byte) (s : State) : Outcome := done (busPwHi .v2 value s)

/-- WR.CONTROL_2 (R144, R190). -/
def execWrControl2 (value : Byte) (s : State) : Outcome := done (busControl .v2 value s)

/-- WR.ATTACK_DECAY_2 (R191). -/
def execWrAttackDecay2 (value : Byte) (s : State) : Outcome := done (busAttackDecay .v2 value s)

/-- WR.SUSTAIN_RELEASE_2 (R192). -/
def execWrSustainRelease2 (value : Byte) (s : State) : Outcome := done (busSustainRelease .v2 value s)

end Sys2Proof.Machine
end

