-- ==== Sys2Proof/Machine/Dispatch.lean ====
section
/-! DEFINITION. The dispatch: one arm per operation, one meaning each. -/

namespace Sys2Proof.Machine

def exec (i : Instr) (s : State) : Host.Outcome State Fault Refusal :=
  match i with
  | .wrFreqLo0 value => Sys2Proof.Machine.execWrFreqLo0 value s
  | .wrFreqHi0 value => Sys2Proof.Machine.execWrFreqHi0 value s
  | .wrPwLo0 value => Sys2Proof.Machine.execWrPwLo0 value s
  | .wrPwHi0 value => Sys2Proof.Machine.execWrPwHi0 value s
  | .wrControl0 value => Sys2Proof.Machine.execWrControl0 value s
  | .wrAttackDecay0 value => Sys2Proof.Machine.execWrAttackDecay0 value s
  | .wrSustainRelease0 value => Sys2Proof.Machine.execWrSustainRelease0 value s
  | .wrFreqLo1 value => Sys2Proof.Machine.execWrFreqLo1 value s
  | .wrFreqHi1 value => Sys2Proof.Machine.execWrFreqHi1 value s
  | .wrPwLo1 value => Sys2Proof.Machine.execWrPwLo1 value s
  | .wrPwHi1 value => Sys2Proof.Machine.execWrPwHi1 value s
  | .wrControl1 value => Sys2Proof.Machine.execWrControl1 value s
  | .wrAttackDecay1 value => Sys2Proof.Machine.execWrAttackDecay1 value s
  | .wrSustainRelease1 value => Sys2Proof.Machine.execWrSustainRelease1 value s
  | .wrFreqLo2 value => Sys2Proof.Machine.execWrFreqLo2 value s
  | .wrFreqHi2 value => Sys2Proof.Machine.execWrFreqHi2 value s
  | .wrPwLo2 value => Sys2Proof.Machine.execWrPwLo2 value s
  | .wrPwHi2 value => Sys2Proof.Machine.execWrPwHi2 value s
  | .wrControl2 value => Sys2Proof.Machine.execWrControl2 value s
  | .wrAttackDecay2 value => Sys2Proof.Machine.execWrAttackDecay2 value s
  | .wrSustainRelease2 value => Sys2Proof.Machine.execWrSustainRelease2 value s
  | .wrFcLo value => Sys2Proof.Machine.execWrFcLo value s
  | .wrFcHi value => Sys2Proof.Machine.execWrFcHi value s
  | .wrResFilt value => Sys2Proof.Machine.execWrResFilt value s
  | .wrModeVol value => Sys2Proof.Machine.execWrModeVol value s
  | .wrUnmapped1919 value => Sys2Proof.Machine.execWrUnmapped1919 value s
  | .wrUnmapped1A1B lo value => Sys2Proof.Machine.execWrUnmapped1A1B lo value s
  | .wrUnmapped1C1F lo value => Sys2Proof.Machine.execWrUnmapped1C1F lo value s
  | .wrUnmapped203F lo value => Sys2Proof.Machine.execWrUnmapped203F lo value s
  | .wrUnmapped407F lo value => Sys2Proof.Machine.execWrUnmapped407F lo value s
  | .wrUnmapped80FF lo value => Sys2Proof.Machine.execWrUnmapped80FF lo value s
  | .rdPotx => Sys2Proof.Machine.execRdPotx s
  | .rdPoty => Sys2Proof.Machine.execRdPoty s
  | .rdOsc3 => Sys2Proof.Machine.execRdOsc3 s
  | .rdEnv3 => Sys2Proof.Machine.execRdEnv3 s
  | .rdBus000F lo => Sys2Proof.Machine.execRdBus000F lo s
  | .rdBus1017 lo => Sys2Proof.Machine.execRdBus1017 lo s
  | .rdBus1818 => Sys2Proof.Machine.execRdBus1818 s
  | .rdBus1D1D => Sys2Proof.Machine.execRdBus1D1D s
  | .rdBus1E1F lo => Sys2Proof.Machine.execRdBus1E1F lo s
  | .rdBus203F lo => Sys2Proof.Machine.execRdBus203F lo s
  | .rdBus407F lo => Sys2Proof.Machine.execRdBus407F lo s
  | .rdBus80FF lo => Sys2Proof.Machine.execRdBus80FF lo s
  | .clk => Sys2Proof.Machine.execClk s
  | .clkn delta => Sys2Proof.Machine.execClkn delta s
  | .rst => Sys2Proof.Machine.execRst s
  | .extin sample => Sys2Proof.Machine.execExtin sample s
  | .out => Sys2Proof.Machine.execOut s
  | .render delta maxSamples => Sys2Proof.Machine.execRender delta maxSamples s
  | .model number => Sys2Proof.Machine.execModel number s
  | .muteV0 flag => Sys2Proof.Machine.execMuteV0 flag s
  | .muteV1 flag => Sys2Proof.Machine.execMuteV1 flag s
  | .muteV2 flag => Sys2Proof.Machine.execMuteV2 flag s
  | .exten flag => Sys2Proof.Machine.execExten flag s
  | .sampling args => Sys2Proof.Machine.execSampling args s
  | .calib points => Sys2Proof.Machine.execCalib points s

end Sys2Proof.Machine
end

