-- ==== Sys2Proof/Machine/Fetch.lean ====
section
/-! DEFINITION. Where operations come from. The chip holds no program and no program counter (10_state.md R21): each operation arrives from
the host, in order (R3, R78). The model's state holds the host's stream of commands that have not been applied yet (assumption log
entry 4). -/

namespace Sys2Proof.Machine

/-- The next command of the host's stream, and the state without it. -/
def fetch (s : State) : Option (Command × State) :=
  match s.pending with
  | [] => none
  | c :: rest => some (c, s.setPending rest)

/-- The state with one more command at the head of the stream. -/
def placeCommand (c : Command) (s : State) : State := s.setPending (c :: s.pending)

/-- Why the model refuses a configuration: the two patched variants have no meaning in any source (R176, R266). -/
def variantRefusal (cfg : Cfg) : Option Refusal :=
  if cfg.patchedNoise then some .patchedNoise else if cfg.patchedFilter then some .patchedFilter else none

/-- A decoded command applied; an `invalid` word is refused (R387). -/
def applyCommand (c : Command) (s : State) : Outcome :=
  match decode c with
  | .ok i => exec i s
  | .error reason => .refused (.invalidWord reason)

/-- One step: the next operation of the stream. With none pending the chip keeps its state: it "never acts on its own between
operations" (R3, R399). -/
def stepOnce (s : State) : Outcome :=
  match variantRefusal s.cfg with
  | some r => .refused r
  | none =>
    match fetch s with
    | some (c, s1) => applyCommand c s1
    | none => .next s

end Sys2Proof.Machine
end

