-- ==== Sys2Proof/Machine/Step.lean ====
section
/-! DEFINITION. The step function: fetch, decode, execute (Machine/Fetch.lean holds the parts). -/

namespace Sys2Proof.Machine

/-- One step of the machine. -/
def step (s : State) : Host.Outcome State Fault Refusal := stepOnce s

/-- The state with a bare word of the opcode table placed where `step` fetches: at the head of the host's stream, with the
out-of-band operands at zero (assumption log entry 4). -/
def State.withFetchWord (s : State) (nbits w : Nat) : State :=
  placeCommand (Command.plain (BitVec.ofNat 32 (w % 2 ^ nbits))) s

end Sys2Proof.Machine
end

