-- ==== Sys2Proof/Safety.lean ====
section
/-! DEFINITION. What the claims speak of: the invariant of reachable states (10_state.md R52 and what the rules imply beside it), the parts
of the state (digital, analog, configuration), and the host's one duty (70_reset_and_hazards.md R420). -/

namespace Sys2Proof.Machine

/-! ## The invariant -/

/-- A voice with `test` set has its accumulator at 0: it was zeroed on the rising edge, and only a sync, to 0, can write it while
`test` is set (41_noise_lfsr.md R173). -/
def oscInv (o : Osc) : Bool := !o.test || decide (o.accumulator = 0)

/-- The exponential periods of R42. -/
def isExpPeriod (p : Byte) : Bool := decide (p ∈ [1, 2, 4, 8, 16, 30])

/-- R52 for one envelope: the exponential counter is below its period, which is one of the six of R42, and `ratePeriod` is an entry of
`RATE_PERIOD`. -/
def envInv (cfg : Cfg) (e : Env) : Bool :=
  decide (e.exponentialCounter < e.exponentialCounterPeriod) && isExpPeriod e.exponentialCounterPeriod &&
  cfg.ratePeriod.toList.contains e.ratePeriod

/-- R52 for the bus value: the time-to-live is at most 0x2000, and 0 only together with a bus value of 0. -/
def chipInv (c : Chip) : Bool :=
  decide (c.busValueTtl ≤ 0x2000) && (decide (c.busValueTtl ≠ 0) || decide (c.busValue = 0))

/-- The phase accumulator between operations: the next sample is due now or later, and no more than one cycle was overshot (R345:
"at the start of every loop iteration `nso` >= 0"). -/
def phaseInv (rs : Resampler) : Bool :=
  decide (0 ≤ rs.sampleOffset.toInt + rs.cyclesPerSample.toInt + (phaseBias rs.strategy).toInt) &&
  decide (rs.sampleOffset.toInt ≤ 65535)

/-- The ratio is in 1..2^30 (R340 line 3). -/
def ratioInv (rs : Resampler) : Bool :=
  decide (1 ≤ rs.cyclesPerSample.toInt) && decide (rs.cyclesPerSample.toInt ≤ 2 ^ 30)

/-- The resampler: ratio, phase, ring in canonical form, index inside the ring (R47). -/
def rsInv (cfg : Cfg) (rs : Resampler) : Bool :=
  ratioInv rs && phaseInv rs && historyWf cfg.ringSize rs.sampleHistory && decide (rs.sampleIndex < cfg.ringSize)

/-- The control values of a piece strictly increase, within 0..2047 (R262). -/
def risingControls : List Knot → Bool
  | a :: b :: rest => decide (a.x < b.x) && risingControls (b :: rest)
  | [a] => decide (a.x ≤ 2047)
  | [] => true

/-- A piece of a calibration: at least two points with strictly increasing control values in 0..2047 (R262). -/
def pieceInv (p : List Knot) : Bool := decide (2 ≤ p.length) && risingControls p

/-- A calibration: one or more pieces (R262), numbered below the install counter. -/
def calibInv (installs : Nat) (c : Calibration) : Bool :=
  !c.pieces.isEmpty && c.pieces.all pieceInv && decide (c.install < installs)

/-- The invariant every operation keeps. -/
def State.inv (s : State) : Bool :=
  s.cfg.wf &&
  oscInv s.osc.v0 && oscInv s.osc.v1 && oscInv s.osc.v2 &&
  envInv s.cfg s.env.v0 && envInv s.cfg s.env.v1 && envInv s.cfg s.env.v2 &&
  chipInv s.chip &&
  calibInv s.installs s.calib.m6581 && calibInv s.installs s.calib.m8580 &&
  rsInv s.cfg s.rs

/-! ## Parts of the state -/

/-- The digital part of the chip: the bus value, the oscillators and the envelopes. -/
structure Digital where
  busValue : Byte
  busValueTtl : BitVec 16
  osc : PerVoice Osc
  env : PerVoice Env
  deriving DecidableEq, Repr

/-- The digital part of a state. -/
def digital (s : State) : Digital :=
  { busValue := s.chip.busValue, busValueTtl := s.chip.busValueTtl, osc := s.osc, env := s.env }

/-- Two states whose digital parts and parameters agree; filter, output stage, external input, chip model, mute flags, calibrations and
resampler may differ. -/
def sameDigital (s t : State) : Prop := s.cfg = t.cfg ∧ digital s = digital t

/-! ## The host's duty -/

/-- No RENDER between a failed SAMPLING and the next successful one (R420), over a trace of operations with their results. `bad` says
that the last SAMPLING failed. -/
def keepsRenderDuty : (bad : Bool) → List (Instr × Result) → Bool
  | _, [] => true
  | _, (.sampling _, r) :: rest => keepsRenderDuty (decide (r ≠ .ok)) rest
  | bad, (.render _ _, _) :: rest => !bad && keepsRenderDuty bad rest
  | bad, _ :: rest => keepsRenderDuty bad rest

end Sys2Proof.Machine
end

