-- ==== Sys2Proof/Certificates/Slice0/Obligations.lean ====
section
/-! DEFINITION. The statements for the provers. Four fields of a state are the model's own: `result`, what the last operation handed back to
the host (assumption log entry 7), `pending`, the host's stream (entry 4), `installs`, which numbers the calibrations (entry 5), and `cfg`,
the parameters as constants (entries 1 and 11). A statement whose rule is a decision of the spec (92_eei_decisions.md) says so in its
docstring. -/

namespace Sys2Proof.Claims

open Sys2Proof.Machine

/-! ## Operations by register kind -/

/-- The number of a voice. -/
def voiceNumber : VoiceIdx → Nat
  | .v0 => 0
  | .v1 => 1
  | .v2 => 2

/-- The offset of register k of voice v: 7 * v + k (10_state.md R22). -/
def voiceOffset (v : VoiceIdx) (k : Nat) : Byte := BitVec.ofNat 8 (7 * voiceNumber v + k)

/-- WR FREQ_LO_v. -/
def wrFreqLo : VoiceIdx → Byte → Instr
  | .v0, b => .wrFreqLo0 b
  | .v1, b => .wrFreqLo1 b
  | .v2, b => .wrFreqLo2 b

/-- WR FREQ_HI_v. -/
def wrFreqHi : VoiceIdx → Byte → Instr
  | .v0, b => .wrFreqHi0 b
  | .v1, b => .wrFreqHi1 b
  | .v2, b => .wrFreqHi2 b

/-- WR PW_LO_v. -/
def wrPwLo : VoiceIdx → Byte → Instr
  | .v0, b => .wrPwLo0 b
  | .v1, b => .wrPwLo1 b
  | .v2, b => .wrPwLo2 b

/-- WR PW_HI_v. -/
def wrPwHi : VoiceIdx → Byte → Instr
  | .v0, b => .wrPwHi0 b
  | .v1, b => .wrPwHi1 b
  | .v2, b => .wrPwHi2 b

/-- WR CONTROL_v. -/
def wrControl : VoiceIdx → Byte → Instr
  | .v0, b => .wrControl0 b
  | .v1, b => .wrControl1 b
  | .v2, b => .wrControl2 b

/-- WR ATTACK_DECAY_v. -/
def wrAttackDecay : VoiceIdx → Byte → Instr
  | .v0, b => .wrAttackDecay0 b
  | .v1, b => .wrAttackDecay1 b
  | .v2, b => .wrAttackDecay2 b

/-- WR SUSTAIN_RELEASE_v. -/
def wrSustainRelease : VoiceIdx → Byte → Instr
  | .v0, b => .wrSustainRelease0 b
  | .v1, b => .wrSustainRelease1 b
  | .v2, b => .wrSustainRelease2 b

/-- MUTE v. -/
def mute : VoiceIdx → Bool → Instr
  | .v0, flag => .muteV0 flag
  | .v1, flag => .muteV1 flag
  | .v2, flag => .muteV2 flag

/-- The chip-level state after a WR of byte b: the bus latch of R291. -/
def latched (b : Byte) (c : Chip) : Chip := { c with busValue := b, busValueTtl := 0x2000 }

/-- CLK n times. -/
def clkTimes : Nat → State → Outcome
  | 0, s => .next s
  | n + 1, s =>
    match exec .clk s with
    | .next s1 => clkTimes n s1
    | .fault f => .fault f
    | .refused r => .refused r

/-- n cycles as `interpolate` clocks them (47_resampler.md R351): all but the last, then the raw output kept in `samplePrev`, then the last;
no cycle keeps nothing. -/
def clkTimesKeepingPrev : Nat → State → Outcome
  | 0, s => .next s
  | n + 1, s =>
    match clkTimes n s with
    | .next a => exec .clk { a with rs := { a.rs with samplePrev := rawOutput a } }
    | .fault f => .fault f
    | .refused r => .refused r

/-! ## Numbers -/

/-- Bit i of a byte, as a number 0 or 1. -/
def bitOf (b : Byte) (i : Nat) : Nat := b.toNat / 2 ^ i % 2

/-- The s32 congruent to z modulo 2^32 (R15). -/
def wrap32 (z : Int) : S32 := BitVec.ofInt 32 z

/-- z brought into the range of s16 (R15). -/
def clamp16 (z : Int) : Int := max (-32768) (min 32767 z)

/-- Bit i of a number rises from a to b: 0 before, 1 after (R15). -/
def bitRises (a b i : Nat) : Bool := decide (a / 2 ^ i % 2 = 0) && decide (b / 2 ^ i % 2 = 1)

/-! ## The analog path in integers -/

/-- `in[i]` of R250, as an exact integer. -/
def scaledInput (s : State) (i : Nat) : Int :=
  match i with
  | 0 => (voiceOutput s .v0).toInt / 128
  | 1 => (voiceOutput s .v1).toInt / 128
  | 2 => if s.filt.voice3Disconnect ∧ s.filt.routing.toNat / 4 % 2 = 0 then 0 else (voiceOutput s .v2).toInt / 128
  | _ => s.chip.externalInput.toInt / 128

/-- The sum of the inputs whose routing bit is `bit` (R251). -/
def inputSum (s : State) (bit : Nat) : Int :=
  (((List.range 4).filter (fun i => s.filt.routing.toNat / 2 ^ i % 2 = bit)).map (scaledInput s)).sum

/-- `asr(wrap32(bp * q), 10) - lp - Vi` in integers, wrapped (R253 line 2). -/
def highpassFrom (q vi bp lp : Int) : S32 := wrap32 ((wrap32 (bp * q)).toInt / 2 ^ 10 - lp - vi)

/-- `wrap32(x - asr(wrap32(w * y), shift))` (R253 lines 3 and 4). -/
def integrated (shift : Nat) (w x y : Int) : S32 := wrap32 (x - (wrap32 (w * y)).toInt / 2 ^ shift)

/-! ## The cutoff table in real numbers -/

/-- Point i of a piece. -/
def pointOf (p : List Knot) (i : Nat) : Knot := p.getD i { x := 0, y := 0 }

/-- The slope of the line through points i and j of a piece. -/
def slopeBetween (p : List Knot) (i j : Nat) : Rat :=
  (((pointOf p j).y : Rat) - (pointOf p i).y) / (((pointOf p j).x : Rat) - (pointOf p i).x)

/-- The cubic of R262 on [x_i, x_{i+1}] at c, for slopes k. -/
def cubicOn (p : List Knot) (k : Nat → Rat) (i c : Nat) : Rat :=
  let h : Rat := ((pointOf p (i + 1)).x : Rat) - (pointOf p i).x
  let u : Rat := ((c : Rat) - (pointOf p i).x) / h
  (2 * u ^ 3 - 3 * u ^ 2 + 1) * (pointOf p i).y + (u ^ 3 - 2 * u ^ 2 + u) * h * k i +
    (-2 * u ^ 3 + 3 * u ^ 2) * (pointOf p (i + 1)).y + (u ^ 3 - u ^ 2) * h * k (i + 1)

/-- A control value lies between the first and the last point of a piece. -/
def liesIn (c : Nat) (p : List Knot) : Prop := (pointOf p 0).x ≤ c ∧ c ≤ (pointOf p (p.length - 1)).x

/-- pi cut to 60 decimal places (assumption log entry 8). -/
def pi60 : Rat := 3141592653589793238462643383279502884197169399375105820974944 / 10 ^ 60

end Sys2Proof.Claims

open Sys2Proof Sys2Proof.Machine Sys2Proof.Claims

/-! ## Encoding -/

/-- 30_encoding.md R101, R106: the word of a well-formed operation decodes to that operation, every operand at every value. -/
def Obligations.DecodeOfEncodeIsTheOperation : Prop :=
  ∀ i : Instr, i.wf = true → decode (encode i) = .ok i

/-- 30_encoding.md R101: no bit of a word is dropped: what decodes is well-formed and encodes to the same word. -/
def Obligations.EncodeOfDecodeIsTheWord : Prop :=
  ∀ (c : Command) (i : Instr), decode c = .ok i → i.wf = true ∧ (encode i).word = c.word

/-- 30_encoding.md R106 (decision D58): a word is an operation exactly when one row of the opcode table holds it, and the rows are
pairwise disjoint: any other word is `invalid` and no row holds it. -/
def Obligations.ValidWordsAreExactlyTheTableRows : Prop :=
  (∀ w : Word, (∃ i, decode (Command.plain w) = .ok i) ↔ (opcodeRows.filter (fun r => r.covers w)).length = 1) ∧
  (∀ w : Word, (∃ e, decode (Command.plain w) = .error e) ↔ opcodeRows.filter (fun r => r.covers w) = [])

/-- 95_test_vectors.md V4: the words written out there, all seventeen, decode as the vector says. The names of the reasons a word is
invalid are the model's (assumption log entry 18). -/
def Obligations.WrittenOutWordsDecode : Prop :=
  decode (Command.plain 0x10000441) = .ok (.wrControl0 0x41) ∧
  decode (Command.plain 0x10002A55) = .ok (.wrUnmapped203F 0x0A 0x55) ∧
  decode (Command.plain 0x20001B00) = .ok .rdOsc3 ∧
  decode (Command.plain 0x30000BB8) = .ok (.clkn 3000) ∧
  decode (Command.plain 0x5000FFFF) = .ok (.extin (BitVec.ofInt 16 (-1))) ∧
  decode (Command.plain 0x7FFFC350) = .ok (.render 50000 4095) ∧
  decode (Command.plain 0x80002184) = .ok (.model 8580) ∧
  decode (Command.plain 0x90000201) = .ok (.muteV2 true) ∧
  decode (Command.plain 0x10010000) = .error .nonzeroField ∧
  decode (Command.plain 0x20001B01) = .error .nonzeroField ∧
  decode (Command.plain 0x00000001) = .error .nonzeroField ∧
  decode (Command.plain 0x80001234) = .ok (.model 4660) ∧
  decode (Command.plain 0x90000301) = .error .muteVoiceThree ∧
  decode (Command.plain 0xA0000002) = .error .nonzeroField ∧
  decode (Command.plain 0xD0000000) = .error .reservedClass ∧
  decode (Command.plain 0xE0000000) = .error .reservedClass ∧
  decode (Command.plain 0xF0000000) = .error .reservedClass

/-! ## The step -/

/-- A step runs the decoded operation: 00_scope.md R3 and 20_memory.md R78, in the model's terms (the host's stream `pending` is the
model's own, assumption log entry 4): `step` removes the next command and is `exec` of what it decodes to. That a patched variant is
refused at the step, so that the premises exclude it, is the model's choice (entry 17). -/
def Obligations.StepRunsTheDecodedOperation : Prop :=
  ∀ (s : State) (c : Command) (rest : List Command) (i : Instr),
    s.pending = c :: rest → s.cfg.patchedNoise = false → s.cfg.patchedFilter = false → decode c = .ok i →
    step s = exec i { s with pending := rest }

/-- With no command pending nothing happens (00_scope.md R3: the chip "never acts on its own between operations"; the stream is the
model's own, assumption log entry 4), and a word placed by `withFetchWord` is the next that runs. R387, R176 and R266 say that the model
refuses an `invalid` word and the two patched variants; the form of the refusals is the model's choice: a word by a refusal with its
reason (entry 18), a patched variant at every step, even with nothing pending, the noise variant before the filter variant (entry 17). -/
def Obligations.StepIdlesPlacesAndRefuses : Prop :=
  ∀ s : State,
    (s.cfg.patchedNoise = false → s.cfg.patchedFilter = false →
      (s.pending = [] → step s = .next s) ∧
      (∀ (w : Word) (i : Instr), decode (Command.plain w) = .ok i → step (s.withFetchWord 32 w.toNat) = exec i s) ∧
      (∀ (w : Word) (e : DecodeError), decode (Command.plain w) = .error e →
        step (s.withFetchWord 32 w.toNat) = .refused (.invalidWord e))) ∧
    (s.cfg.patchedNoise = true → step s = .refused .patchedNoise) ∧
    (s.cfg.patchedNoise = false → s.cfg.patchedFilter = true → step s = .refused .patchedFilter)

/-- 00_scope.md R4: no operation faults, traps or blocks in any state with any operand: each completes with a next state, and so
with a result for the host. -/
def Obligations.EveryOperationCompletes : Prop :=
  ∀ (i : Instr) (s : State), ∃ t, exec i s = .next t ∧ t.cfg = s.cfg ∧ t.pending = s.pending

/-! ## Register writes -/

/-- 40_oscillator.md R140, R141, R142: WR FREQ_LO_v and FREQ_HI_v replace their byte of `freq`, WR PW_LO_v the low byte of `pulseWidth`;
each latches the bus and changes nothing else. -/
def Obligations.FrequencyAndPulseLowWritesReplaceTheirByte : Prop :=
  ∀ (v : VoiceIdx) (b : Byte) (s : State),
    decodeWr (voiceOffset v 0) b = wrFreqLo v b ∧ decodeWr (voiceOffset v 1) b = wrFreqHi v b ∧
    decodeWr (voiceOffset v 2) b = wrPwLo v b ∧
    exec (wrFreqLo v b) s = .next { s with
      osc := setVoice s.osc v { ofVoice s.osc v with
        freq := BitVec.ofNat 16 ((ofVoice s.osc v).freq.toNat / 256 * 256 + b.toNat) }
      chip := latched b s.chip
      result := .none } ∧
    exec (wrFreqHi v b) s = .next { s with
      osc := setVoice s.osc v { ofVoice s.osc v with
        freq := BitVec.ofNat 16 (b.toNat * 256 + (ofVoice s.osc v).freq.toNat % 256) }
      chip := latched b s.chip
      result := .none } ∧
    exec (wrPwLo v b) s = .next { s with
      osc := setVoice s.osc v { ofVoice s.osc v with
        pulseWidth := BitVec.ofNat 12 ((ofVoice s.osc v).pulseWidth.toNat / 256 * 256 + b.toNat) }
      chip := latched b s.chip
      result := .none }

/-- 40_oscillator.md R144, 41_noise_lfsr.md R172, R173 (decisions D8, D14, D15): the oscillator part of WR CONTROL_v: bits 7 to 1 move;
a rising edge of `test` clears the accumulator and applies `LFSR_TEST_RISE`, a falling edge reseeds the LFSR; `msbRising` stays. Beside
it only the envelope of voice v (GateBitSwitchesTheEnvelope) and the bus latch change. -/
def Obligations.ControlWriteActsOnEdges : Prop :=
  ∀ (v : VoiceIdx) (b : Byte) (s : State),
    let o := ofVoice s.osc v
    let testRise := o.test = false ∧ bitOf b 3 = 1
    let testFall := o.test = true ∧ bitOf b 3 = 0
    decodeWr (voiceOffset v 4) b = wrControl v b ∧
    ∃ t, exec (wrControl v b) s = .next t ∧ t = { s with
      osc := setVoice s.osc v { o with
        waveformSelect := BitVec.ofNat 4 (b.toNat / 16)
        ringMod := decide (bitOf b 2 = 1)
        syncEnable := decide (bitOf b 1 = 1)
        test := decide (bitOf b 3 = 1)
        accumulator := if testRise then 0 else o.accumulator
        shiftRegister :=
          if testRise then (match s.cfg.lfsrTestRise with | some x => x | none => o.shiftRegister)
          else if testFall then s.cfg.lfsrReseed else o.shiftRegister }
      env := setVoice s.env v (ofVoice t.env v)
      chip := latched b s.chip
      result := .none }

/-- 42_envelope.md R190: the gate part of WR CONTROL_v: a gate edge switches the envelope's state and reloads its period, a rising one also
clears `holdZero`; the same value again changes nothing, and no counter and no nibble changes in any case. -/
def Obligations.GateBitSwitchesTheEnvelope : Prop :=
  ∀ (v : VoiceIdx) (b : Byte) (s : State),
    let e := ofVoice s.env v
    let gateRise := e.gate = false ∧ bitOf b 0 = 1
    let gateFall := e.gate = true ∧ bitOf b 0 = 0
    ∃ t, exec (wrControl v b) s = .next t ∧ t.env = setVoice s.env v { e with
        gate := decide (bitOf b 0 = 1)
        state := if gateRise then .attack else if gateFall then .release else e.state
        ratePeriod := if gateRise then ratePeriodAt s.cfg e.attack
          else if gateFall then ratePeriodAt s.cfg e.release else e.ratePeriod
        holdZero := if gateRise then false else e.holdZero }

/-- 40_oscillator.md R143, 42_envelope.md R191, R192 (decisions D9, D10): WR PW_HI_v replaces the upper four bits of `pulseWidth` by value[3:0];
WR ATTACK_DECAY_v and SUSTAIN_RELEASE_v move their nibbles, and the period is reloaded only in the state the nibble belongs to (`attack`
in ATTACK, `decay` in DECAY_SUSTAIN, `release` in RELEASE; `sustain` in none). -/
def Obligations.NibbleWritesMoveTheirFields : Prop :=
  ∀ (v : VoiceIdx) (b : Byte) (s : State),
    let e := ofVoice s.env v
    let hi : BitVec 4 := BitVec.ofNat 4 (b.toNat / 16)
    let lo : BitVec 4 := BitVec.ofNat 4 (b.toNat % 16)
    decodeWr (voiceOffset v 3) b = wrPwHi v b ∧ decodeWr (voiceOffset v 5) b = wrAttackDecay v b ∧
    decodeWr (voiceOffset v 6) b = wrSustainRelease v b ∧
    exec (wrPwHi v b) s = .next { s with
      osc := setVoice s.osc v { ofVoice s.osc v with
        pulseWidth := BitVec.ofNat 12 (b.toNat % 16 * 256 + (ofVoice s.osc v).pulseWidth.toNat % 256) }
      chip := latched b s.chip
      result := .none } ∧
    exec (wrAttackDecay v b) s = .next { s with
      env := setVoice s.env v { e with
        attack := hi
        decay := lo
        ratePeriod := if e.state = .attack then ratePeriodAt s.cfg hi
          else if e.state = .decaySustain then ratePeriodAt s.cfg lo else e.ratePeriod }
      chip := latched b s.chip
      result := .none } ∧
    exec (wrSustainRelease v b) s = .next { s with
      env := setVoice s.env v { e with
        sustain := hi
        release := lo
        ratePeriod := if e.state = .release then ratePeriodAt s.cfg lo else e.ratePeriod }
      chip := latched b s.chip
      result := .none }

/-- 44_filter.md R240 to R243 (decisions D11 to D13): FC_LO replaces cutoff[2:0] by value[2:0], FC_HI replaces cutoff[10:3], RES_FILT and MODE_VOL
move their fields; the bus is latched and nothing else changes. -/
def Obligations.FilterRegisterWritesMoveTheirFields : Prop :=
  ∀ (b : Byte) (s : State),
    let written : Filt → Outcome := fun f => .next { s with filt := f, chip := latched b s.chip, result := .none }
    decodeWr 0x15 b = .wrFcLo b ∧ decodeWr 0x16 b = .wrFcHi b ∧
    decodeWr 0x17 b = .wrResFilt b ∧ decodeWr 0x18 b = .wrModeVol b ∧
    exec (.wrFcLo b) s =
      written { s.filt with cutoff := BitVec.ofNat 11 (s.filt.cutoff.toNat / 8 * 8 + b.toNat % 8) } ∧
    exec (.wrFcHi b) s =
      written { s.filt with cutoff := BitVec.ofNat 11 (b.toNat * 8 + s.filt.cutoff.toNat % 8) } ∧
    exec (.wrResFilt b) s =
      written { s.filt with resonance := BitVec.ofNat 4 (b.toNat / 16), routing := BitVec.ofNat 4 (b.toNat % 16) } ∧
    exec (.wrModeVol b) s =
      written { s.filt with
        voice3Disconnect := decide (bitOf b 7 = 1)
        outputSelect := BitVec.ofNat 3 (b.toNat / 16 % 8)
        volume := BitVec.ofNat 4 (b.toNat % 16) }

/-- 46_chip_assembly.md R291 and 10_state.md R38 (decisions D5, D42): a WR to any offset from 0x19 on latches the bus value and re-arms
the time-to-live, and nothing more. -/
def Obligations.UnmappedWritesOnlyLatchTheBus : Prop :=
  ∀ (b : Byte) (s : State),
    let after : Outcome := .next { s with chip := latched b s.chip, result := .none }
    exec (.wrUnmapped1919 b) s = after ∧
    (∀ lo, exec (.wrUnmapped1A1B lo b) s = after) ∧
    (∀ lo, exec (.wrUnmapped1C1F lo b) s = after) ∧
    (∀ lo, exec (.wrUnmapped203F lo b) s = after) ∧
    (∀ lo, exec (.wrUnmapped407F lo b) s = after) ∧
    (∀ lo, exec (.wrUnmapped80FF lo b) s = after) ∧
    (∀ o : Byte, 0x19 ≤ o.toNat → exec (decodeWr o b) s = after)

/-- 46_chip_assembly.md R291, 30_encoding.md R102: the operation the decoder picks for an offset does what the dispatch by offset div 7
and offset mod 7 says. -/
def Obligations.WriteDispatchByOffset : Prop :=
  ∀ (o b : Byte) (s : State), exec (decodeWr o b) s = .next ((busWrite o b s).setResult .none)

/-! ## Register reads -/

/-- 46_chip_assembly.md R296: POTX and POTY read 0xFF in every state. That the read changes nothing is R295 (decision D42). -/
def Obligations.PotentiometersReadAllOnes : Prop :=
  ∀ s : State,
    decodeRd 0x19 = .rdPotx ∧ decodeRd 0x1A = .rdPoty ∧
    exec .rdPotx s = .next { s with result := .byte 0xFF } ∧ exec .rdPoty s = .next { s with result := .byte 0xFF }

/-- 46_chip_assembly.md R295, R297 to R299 (decision D21): OSC3 is bits [11:4] of oscillator 2's output at this moment, ENV3 the envelope
counter of voice 2, every other offset but 0x19 and 0x1A the bus value; no read changes anything. -/
def Obligations.ReadsReturnSnapshotsOrTheBusValue : Prop :=
  ∀ s : State,
    let bus : Outcome := .next { s with result := .byte s.chip.busValue }
    decodeRd 0x1B = .rdOsc3 ∧ decodeRd 0x1C = .rdEnv3 ∧
    exec .rdOsc3 s = .next { s with
      result := .byte (BitVec.ofNat 8 ((waveOutput s.cfg s.chip.chipModel s.osc .v2).toNat / 16)) } ∧
    exec .rdEnv3 s = .next { s with result := .byte s.env.v2.envelopeCounter } ∧
    (∀ lo, exec (.rdBus000F lo) s = bus) ∧
    (∀ lo, exec (.rdBus1017 lo) s = bus) ∧
    exec .rdBus1818 s = bus ∧
    exec .rdBus1D1D s = bus ∧
    (∀ lo, exec (.rdBus1E1F lo) s = bus) ∧
    (∀ lo, exec (.rdBus203F lo) s = bus) ∧
    (∀ lo, exec (.rdBus407F lo) s = bus) ∧
    (∀ lo, exec (.rdBus80FF lo) s = bus) ∧
    (∀ o : Byte, o.toNat < 0x19 ∨ 0x1C < o.toNat → exec (decodeRd o) s = bus)

/-- 46_chip_assembly.md R301, 70_reset_and_hazards.md R439 (decision D41): after a WR of b and n CLK the bus value is b while n < 0x2000 and
0 from the 0x2000th cycle on. -/
def Obligations.BusValueDecaysInTheWindow : Prop :=
  ∀ (o b : Byte) (s : State) (n : Nat), ∃ s1 t, exec (decodeWr o b) s = .next s1 ∧ clkTimes n s1 = .next t ∧
    t.chip.busValue = (if n < 0x2000 then b else 0) ∧ t.chip.busValueTtl.toNat = 0x2000 - n

/-! ## Oscillators -/

/-- 40_oscillator.md R145, 41_noise_lfsr.md R170: one cycle of an oscillator. With `test` set nothing changes, `msbRising` included;
otherwise the accumulator adds `freq` modulo 2^24, `msbRising` says whether bit 23 rose, and the LFSR shifts exactly when bit 19 rose,
with bit 22 XOR bit 17 into bit 0. -/
def Obligations.OscillatorCycle : Prop :=
  ∀ o : Osc,
    let a := o.accumulator.toNat
    let a' := (a + o.freq.toNat) % 2 ^ 24
    let r := o.shiftRegister.toNat
    (o.test = true → o.one = o) ∧
    (o.test = false → o.one = { o with
      accumulator := BitVec.ofNat 24 a'
      msbRising := bitRises a a' 23
      shiftRegister := if bitRises a a' 19 then
          BitVec.ofNat 23 (2 * r % 2 ^ 23 + (r / 2 ^ 22 + r / 2 ^ 17) % 2)
        else o.shiftRegister })

/-- 40_oscillator.md R147: n cycles of an oscillator with `test` clear in closed form: the accumulator, the number of LFSR shifts (the k
in 1..n at which bit 19 of accumulator + k * freq rises) and the flag of the last cycle. -/
def Obligations.OscillatorManyCyclesClosedForm : Prop :=
  ∀ (o : Osc) (n : Nat), o.test = false →
    let at' := fun k => (o.accumulator.toNat + k * o.freq.toNat) % 2 ^ 24
    Osc.one^[n] o = { o with
      accumulator := BitVec.ofNat 24 (at' n)
      msbRising := if n = 0 then o.msbRising else bitRises (at' (n - 1)) (at' n) 23
      shiftRegister :=
        lfsrShift^[((List.range n).filter (fun k => bitRises (at' k) (at' (k + 1)) 19)).length] o.shiftRegister }

/-- 40_oscillator.md R146: hard sync of one cycle. A voice's accumulator is zeroed exactly when its source's MSB rose, it has `syncEnable`,
and the source is not itself being synced by its own source; nothing else of any voice changes, the order of the three calls does not
matter, and CLK makes them once, after all three oscillators have advanced. -/
def Obligations.HardSyncZeroesTheDestination : Prop :=
  (∀ (a b c : VoiceIdx) (oscs : PerVoice Osc), a ≠ b → b ≠ c → a ≠ c →
    synchronize a (synchronize b (synchronize c oscs)) = synchronizeAll oscs) ∧
  (∀ s : State, ∃ t, exec .clk s = .next t ∧ t.osc = synchronizeAll (mapVoices Osc.one s.osc)) ∧
  ∀ (oscs : PerVoice Osc) (v : VoiceIdx),
    let o := ofVoice oscs v
    let src := ofVoice oscs (syncSource v)
    let srcOfSrc := ofVoice oscs (syncSource (syncSource v))
    ofVoice (synchronizeAll oscs) v = { o with
      accumulator :=
        if src.msbRising = true ∧ o.syncEnable = true ∧ ¬(src.syncEnable = true ∧ srcOfSrc.msbRising = true) then 0
        else o.accumulator }

/-- 40_oscillator.md R150 to R155, 41_noise_lfsr.md R175 (decisions D16 to D20): the 16 combinations of the waveform output as numbers. The
contents of the four tables are free values (assumption log entry 2). -/
def Obligations.WaveformOutputSelection : Prop :=
  ∀ (cfg : Cfg) (m : ChipModel) (oscs : PerVoice Osc) (v : VoiceIdx),
    let o := ofVoice oscs v
    let a := o.accumulator.toNat
    let partnerHigh : Bool := decide (2 ^ 23 ≤ (ofVoice oscs (syncSource v)).accumulator.toNat)
    let inverted : Bool := decide (2 ^ 23 ≤ a) ^^ (o.ringMod && partnerHigh)
    let tri := (if inverted then 2 ^ 24 - 1 - a else a) / 2 ^ 11 % 2 ^ 12
    let saw := a / 2 ^ 12
    let high := o.test = true ∨ o.pulseWidth.toNat ≤ saw
    let pul := if high then 4095 else 0
    let noiseOut := ((List.finRange 8).map (fun k => 2 ^ (4 + k.val) * (o.shiftRegister.toNat / 2 ^ cfg.noiseTap[k].val % 2))).sum
    let gated := fun (b : Byte) => if high then 16 * b.toNat else 0
    let y := (waveOutput cfg m oscs v).toNat
    (o.waveformSelect = 1 → y = tri) ∧
    (o.waveformSelect = 2 → y = saw) ∧
    (o.waveformSelect = 3 → y = 16 * (Config.waveST m (BitVec.ofNat 12 saw)).toNat) ∧
    (o.waveformSelect = 4 → y = pul) ∧
    (o.waveformSelect = 5 → y = gated (Config.wavePT m (BitVec.ofNat 12 (tri / 2)))) ∧
    (o.waveformSelect = 6 → y = gated (Config.wavePS m (BitVec.ofNat 12 saw))) ∧
    (o.waveformSelect = 7 → y = gated (Config.wavePST m (BitVec.ofNat 12 saw))) ∧
    (o.waveformSelect = 8 → y = noiseOut) ∧
    (o.waveformSelect = 0 ∨ 9 ≤ o.waveformSelect.toNat → y = 0)

/-! ## Envelopes -/

/-- 42_envelope.md R194, R195 (decisions D23 to D25): a cycle without a rate match changes only the rate counter; a match without a step
changes only the rate counter and the exponential counter. -/
def Obligations.EnvelopeCycleWithoutStep : Prop :=
  ∀ (cfg : Cfg) (e : Env),
    let rc := if e.rateCounter.toNat = 0x7FFF then cfg.rateWrapTo.val else e.rateCounter.toNat + 1
    let expReached := e.state = .attack ∨ (e.exponentialCounter.toNat + 1) % 256 = e.exponentialCounterPeriod.toNat
    (rc ≠ e.ratePeriod.toNat → e.one cfg = { e with rateCounter := BitVec.ofNat 15 rc }) ∧
    (rc = e.ratePeriod.toNat → ¬expReached →
      e.one cfg = { e with rateCounter := 0, exponentialCounter := e.exponentialCounter + 1 }) ∧
    (rc = e.ratePeriod.toNat → expReached → e.holdZero = true →
      e.one cfg = { e with rateCounter := 0, exponentialCounter := 0 })

/-- 42_envelope.md R194 to R199: a cycle in which the envelope steps: the counter of the state, the end of the attack, the exponential period
by the new counter, and the zero hold. When a cycle steps rests on decisions: the rate match with `RATE_WRAP_TO` (R194, D23, assumption
log entry 11), the exponential counter zeroed in every state and the place of the hold test (R195, D24, D25, entry 10). -/
def Obligations.EnvelopeCycleWithStep : Prop :=
  ∀ (cfg : Cfg) (e : Env),
    (if e.rateCounter.toNat = 0x7FFF then cfg.rateWrapTo.val else e.rateCounter.toNat + 1) = e.ratePeriod.toNat →
    (e.state = .attack ∨ (e.exponentialCounter.toNat + 1) % 256 = e.exponentialCounterPeriod.toNat) →
    e.holdZero = false →
    let c := e.envelopeCounter.toNat
    let c' := if e.state = .attack then (c + 1) % 256
      else if e.state = .decaySustain ∧ c = 17 * e.sustain.toNat then c
      else (c + 255) % 256
    let peak := e.state = .attack ∧ c' = 255
    e.one cfg = { e with
      rateCounter := 0
      exponentialCounter := 0
      envelopeCounter := BitVec.ofNat 8 c'
      state := if peak then .decaySustain else e.state
      ratePeriod := if peak then ratePeriodAt cfg e.decay else e.ratePeriod
      exponentialCounterPeriod :=
        if c' = 0xFF then 1 else if c' = 0x5D then 2 else if c' = 0x36 then 4 else if c' = 0x1A then 8
        else if c' = 0x0E then 16 else if c' = 0x06 then 30 else if c' = 0 then 1 else e.exponentialCounterPeriod
      holdZero := decide (c' = 0) }

/-- 10_state.md R51: no operation but CLK, CLKN, RENDER and RST changes an envelope counter; RST sets it to 0; the three clocking
operations apply the per-cycle step of 42_envelope.md R193 some number of times (once, `delta` times, at most `delta` times), and each
application changes it by +1, by -1 (modulo 256) or not at all. -/
def Obligations.EnvelopeCounterNeverJumps : Prop :=
  (∀ (cfg : Cfg) (e : Env), (e.one cfg).envelopeCounter = e.envelopeCounter ∨
    (e.one cfg).envelopeCounter = e.envelopeCounter + 1 ∨ (e.one cfg).envelopeCounter = e.envelopeCounter - 1) ∧
  (∀ (i : Instr) (s t : State) (v : VoiceIdx), s.inv = true → exec i s = .next t →
    let after := fun (n : Nat) => ((Env.one s.cfg)^[n] (ofVoice s.env v)).envelopeCounter
    let c := (ofVoice t.env v).envelopeCounter
    match i with
    | .clk => c = after 1
    | .clkn delta => c = after delta
    | .render delta _ => ∃ n, n ≤ delta ∧ c = after n
    | .rst => c = 0
    | _ => c = (ofVoice s.env v).envelopeCounter)

/-- 42_envelope.md R205 (derived there): a full attack from rest. From a counter and a rate counter of 0 in ATTACK with period P the
counter is k / P after k cycles, and at cycle 255 * P, not before, the state becomes DECAY_SUSTAIN with the decay period loaded. -/
def Obligations.FullAttackTakes255Periods : Prop :=
  ∀ (cfg : Cfg) (e : Env) (k : Nat),
    e.state = .attack → e.holdZero = false → e.envelopeCounter = 0 → e.rateCounter = 0 → 0 < e.ratePeriod.toNat →
    k ≤ 255 * e.ratePeriod.toNat →
    let f := (Env.one cfg)^[k] e
    f.envelopeCounter.toNat = k / e.ratePeriod.toNat ∧
    f.state = (if k < 255 * e.ratePeriod.toNat then .attack else .decaySustain) ∧
    f.ratePeriod = (if k < 255 * e.ratePeriod.toNat then e.ratePeriod else ratePeriodAt cfg e.decay) ∧
    f.rateCounter.toNat = k % e.ratePeriod.toNat

/-- 42_envelope.md R201 (derived there): the ADSR delay bug. With a period P at or below the rate counter c the next match comes after
exactly (0x8000 - c) + P - `RATE_WRAP_TO` cycles; until then only the rate counter moves. -/
def Obligations.AdsrDelayBug : Prop :=
  ∀ (cfg : Cfg) (e : Env), 0 < e.ratePeriod.toNat → e.ratePeriod.toNat ≤ e.rateCounter.toNat →
    let n := 0x8000 - e.rateCounter.toNat + e.ratePeriod.toNat - cfg.rateWrapTo.val
    (∀ k, k < n → ∃ rc, (Env.one cfg)^[k] e = { e with rateCounter := rc } ∧
      ((({ e with rateCounter := rc } : Env).rateTick cfg).2 = true ↔ k + 1 = n)) ∧
    ((Env.one cfg)^[n] e).rateCounter = 0

/-! ## Clocking -/

/-- 46_chip_assembly.md R300 steps 1 to 4, R301 (decision D41), 43_voice.md R231: a CLK always completes; it ages the bus value, steps the
three envelopes, advances all three oscillators and then synchronizes them; it touches no register of the filter, no configuration, no
external input and no resampler field. -/
def Obligations.ClkAdvancesTheDigitalPart : Prop :=
  ∀ s : State, ∃ t, exec .clk s = .next t ∧
    t.env = mapVoices (Env.one s.cfg) s.env ∧
    t.osc = synchronizeAll (mapVoices Osc.one s.osc) ∧
    t.chip.busValueTtl.toNat = s.chip.busValueTtl.toNat - 1 ∧
    t.chip.busValue = (if s.chip.busValueTtl.toNat = 1 then 0 else s.chip.busValue) ∧
    t.chip.externalInput = s.chip.externalInput ∧ t.chip.chipModel = s.chip.chipModel ∧
    t.filt = { s.filt with
      highpassState := t.filt.highpassState, bandpassState := t.filt.bandpassState,
      lowpassState := t.filt.lowpassState, unfilteredSum := t.filt.unfilteredSum } ∧
    t.extf.enabled = s.extf.enabled ∧
    t.cfg = s.cfg ∧ t.muted = s.muted ∧ t.calib = s.calib ∧ t.rs = s.rs ∧ t.pending = s.pending ∧ t.installs = s.installs ∧
    t.result = .none

/-- 46_chip_assembly.md R300 steps 5 and 6, 44_filter.md R250, R251, R253, 45_output_stage.md R281, R283 (decisions D28, D29, D33, D35, D36):
the analog share of a CLK in integers. The inputs are read after this cycle's envelope, oscillator and sync steps; the three filter
states follow R253 in the order of `FILTER_ORDER`; the output stage reads the filter output of this cycle and its own states from before
the step; every binary operation wraps at 32 bits. -/
def Obligations.ClkStepsTheAnalogPart : Prop :=
  ∀ s t : State, exec .clk s = .next t →
    let q := (invQAt s.cfg s.filt.resonance).toInt
    let w := (w0ForClk s).toInt
    let vi := inputSum t 1
    let hp := s.filt.highpassState.toInt
    let bp := s.filt.bandpassState.toInt
    let lp := s.filt.lowpassState.toInt
    let x := (filterOutput t).toInt
    let l := s.extf.lowpassState.toInt
    let h := s.extf.highpassState.toInt
    let target := match s.cfg.extfHpTracks with | .lowpass => l | .input => x
    t.filt.unfilteredSum.toInt = inputSum t 0 ∧
    (s.cfg.filterOrder = .doc →
      t.filt.highpassState = highpassFrom q vi bp lp ∧
      t.filt.bandpassState = integrated 20 w bp t.filt.highpassState.toInt ∧
      t.filt.lowpassState = integrated 20 w lp t.filt.bandpassState.toInt) ∧
    (s.cfg.filterOrder = .reference →
      t.filt.bandpassState = integrated 20 w bp hp ∧
      t.filt.lowpassState = integrated 20 w lp bp ∧
      t.filt.highpassState = highpassFrom q vi t.filt.bandpassState.toInt t.filt.lowpassState.toInt) ∧
    (s.extf.enabled = true →
      t.extf.out = wrap32 (l - h) ∧
      t.extf.lowpassState =
        wrap32 (l + (wrap32 (s.cfg.extfW0LP.toInt / 2 ^ 8 * (wrap32 (x - l)).toInt)).toInt / 2 ^ 12) ∧
      t.extf.highpassState = wrap32 (h + (wrap32 (s.cfg.extfW0HP.toInt * (wrap32 (target - h)).toInt)).toInt / 2 ^ 20)) ∧
    (s.extf.enabled = false →
      t.extf.out = wrap32 (x - (perModel s.cfg.extfDC s.chip.chipModel).toInt) ∧
      t.extf.lowpassState = 0 ∧ t.extf.highpassState = 0)

/-- 46_chip_assembly.md R303: a CLKN always completes. CLKN 0 changes nothing at all; CLKN d ages the bus value by d, leaves the
oscillators and envelopes as d cycles do, and runs the bulk steps of filter and output stage on the result; nothing else changes. -/
def Obligations.ClknClocksDeltaCyclesAtOnce : Prop :=
  ∀ (d : Nat) (s : State),
    exec (.clkn 0) s = .next { s with result := .none } ∧
    (0 < d → ∃ u t, exec (.clkn d) s = .next t ∧
      u = { s with
        chip := { s.chip with
          busValueTtl := BitVec.ofNat 16 (s.chip.busValueTtl.toNat - d)
          busValue := if s.chip.busValueTtl.toNat ≤ d then 0 else s.chip.busValue }
        env := mapVoices (fun e => (Env.one s.cfg)^[d] e) s.env
        osc := (fun oscs => synchronizeAll (mapVoices Osc.one oscs))^[d] s.osc
        result := .none } ∧
      t = outputBulk d (filterBulk d u) ∧
      t = { u with filt := t.filt, extf := t.extf })

/-- 44_filter.md R255, 45_output_stage.md R284 (decisions D30, D37): the bulk steps of CLKN. d cycles are d / step whole sub-steps and one of
the remainder, if it is not 0; the inputs and the filter output are read once; and one sub-step of k cycles, of the filter in the order of
`FILTER_ORDER` and of the output stage, is given in integers, every binary operation wrapping at 32 bits (decision D6). -/
def Obligations.BulkSubStepsPartitionTheCycles : Prop :=
  (∀ (d : Nat) (s : State), s.cfg.wf = true →
    let chunks := fun (step : Nat) => List.replicate (d / step) step ++ (if d % step = 0 then [] else [d % step])
    (filterBulk d s).filt =
      (chunks s.cfg.filtBulkStep).foldl (fun f k =>
        f.bulkStep s.cfg.filterOrder (w0ForClkn s) (invQAt s.cfg s.filt.resonance) (wrap32 (inputSum s 1)) k)
        { s.filt with unfilteredSum := wrap32 (inputSum s 0) } ∧
    (s.extf.enabled = true →
      (outputBulk d s).extf = (chunks s.cfg.extfBulkStep).foldl (fun x k => x.bulkStep s.cfg (filterOutput s) k) s.extf) ∧
    (s.extf.enabled = false →
      (outputBulk d s).extf = { s.extf with
        lowpassState := 0, highpassState := 0,
        out := wrap32 ((filterOutput s).toInt - (perModel s.cfg.extfDC s.chip.chipModel).toInt) })) ∧
  (∀ (order : FilterOrder) (w q vi : S32) (k : Nat) (f : Filt),
    let wdt := (wrap32 (w.toInt * k)).toInt / 2 ^ 6
    let hp := f.highpassState.toInt
    let bp := f.bandpassState.toInt
    let lp := f.lowpassState.toInt
    let g := f.bulkStep order w q vi k
    g = { f with
      highpassState := g.highpassState, bandpassState := g.bandpassState, lowpassState := g.lowpassState } ∧
    match order with
    | .doc =>
      g.highpassState = highpassFrom q.toInt vi.toInt bp lp ∧
      g.bandpassState = integrated 14 wdt bp g.highpassState.toInt ∧
      g.lowpassState = integrated 14 wdt lp g.bandpassState.toInt
    | .reference =>
      g.bandpassState = integrated 14 wdt bp hp ∧
      g.lowpassState = integrated 14 wdt lp bp ∧
      g.highpassState = highpassFrom q.toInt vi.toInt g.bandpassState.toInt g.lowpassState.toInt) ∧
  (∀ (cfg : Cfg) (vi : S32) (k : Nat) (x : Extf),
    let l := x.lowpassState.toInt
    let h := x.highpassState.toInt
    let target := match cfg.extfHpTracks with | .lowpass => l | .input => vi.toInt
    x.bulkStep cfg vi k = { x with
      out := wrap32 (l - h)
      lowpassState :=
        wrap32 (l + (wrap32 ((wrap32 (cfg.extfW0LP.toInt * k)).toInt / 2 ^ 8 * (wrap32 (vi.toInt - l)).toInt)).toInt / 2 ^ 12)
      highpassState :=
        wrap32 (h + (wrap32 ((wrap32 (cfg.extfW0HP.toInt * k)).toInt * (wrap32 (target - h)).toInt)).toInt / 2 ^ 20) })

/-- 46_chip_assembly.md R303 corner case a, 40_oscillator.md R147, 42_envelope.md R200, 90_conflicts.md C1: the bus value, the oscillators
and the envelopes after CLKN d are those after d CLK. The premise is R52's clause on the bus value, an invariant of the model. -/
def Obligations.ClknIsClkTimesInTheDigitalPart : Prop :=
  ∀ (d : Nat) (s : State), chipInv s.chip = true → ∃ t u, exec (.clkn d) s = .next t ∧ clkTimes d s = .next u ∧ digital t = digital u

/-- 70_reset_and_hazards.md R412 (derived there): the idle chip. From the state RST leaves, whatever it was before, n CLK move nothing but the
three rate counters, which count modulo `RATE_PERIOD[0]`, and `unfilteredSum`, which from the first CLK on is the sum of the voices' DC
levels (a muted voice gives 0) and the external input, each shifted right by 7. With the output stage enabled it stays at 0 and OUT is 0;
disabled, it shows its negative DC bias from the first CLK on (R283, decision D36). The reset values are decisions D38, D39 (assumption
log entry 9); the parameters are any that meet the constraints of R12. -/
def Obligations.IdleChipOnlyCountsRates : Prop :=
  ∀ (s s0 : State) (n : Nat), s.cfg.wf = true → exec .rst s = .next s0 →
    let level := fun (v : VoiceIdx) =>
      if ofVoice s.muted v = true then 0 else (perModel s.cfg.voiceDC s.chip.chipModel).toInt / 128
    ∃ t, clkTimes n s0 = .next t ∧ t = { s0 with env := t.env, filt := t.filt, extf := t.extf } ∧
      (∀ v, ofVoice t.env v =
        { ofVoice s0.env v with rateCounter := BitVec.ofNat 15 (n % s.cfg.ratePeriod[0].toNat) }) ∧
      t.filt = { s0.filt with
        unfilteredSum :=
          if n = 0 then 0 else wrap32 (level .v0 + level .v1 + level .v2 + s.chip.externalInput.toInt / 128) } ∧
      (s.extf.enabled = true → t.extf = s0.extf ∧ exec .out t = .next { t with result := .sample 0 }) ∧
      (s.extf.enabled = false → t.extf = { s0.extf with
        out := if n = 0 then 0 else wrap32 (-(perModel s.cfg.extfDC s.chip.chipModel).toInt) })

/-! ## Voice, filter and raw output -/

/-- 43_voice.md R230 (decisions D26, D27): with the parameters of the default record the voice output is (w - zero) * e + dc without wrap, and 0
when muted. The four constants are defaults of the spec from general knowledge (assumption log entry 1). -/
def Obligations.VoiceOutputDoesNotWrap : Prop :=
  ∀ (s : State) (v : VoiceIdx),
    let w : Int := (waveOutput s.cfg s.chip.chipModel s.osc v).toNat
    let e : Int := (ofVoice s.env v).envelopeCounter.toNat
    (ofVoice s.muted v = true → voiceOutput s v = 0) ∧
    (ofVoice s.muted v = false → s.cfg.waveZero = standardCfg.waveZero → s.cfg.voiceDC = standardCfg.voiceDC →
      (s.chip.chipModel = .m6581 → (voiceOutput s v).toInt = (w - 896) * e + 522240) ∧
      (s.chip.chipModel = .m8580 → (voiceOutput s v).toInt = (w - 2048) * e))

/-- 44_filter.md R251: every input goes into exactly one of the two sums, so they add up to the sum of the four inputs; neither wraps, and
CLK stores the second in `unfilteredSum`. -/
def Obligations.RoutingSplitsTheInputs : Prop :=
  ∀ s : State,
    (routedSum s.filt.routing (mixInputs s)).toInt = inputSum s 1 ∧
    (unroutedSum s.filt.routing (mixInputs s)).toInt = inputSum s 0 ∧
    inputSum s 1 + inputSum s 0 = scaledInput s 0 + scaledInput s 1 + scaledInput s 2 + scaledInput s 3 ∧
    ∃ t, exec .clk s = .next t ∧ t.filt.unfilteredSum.toInt = inputSum t 0

/-- 44_filter.md R258 (decision D31), 95_test_vectors.md X4: the filter output: the chosen states, `Vnf` and the DC bias, times the volume,
wrapped; with no output selected the three states do not enter it. -/
def Obligations.FilterOutputMixesTheSelection : Prop :=
  ∀ (cfg : Cfg) (m : ChipModel) (f : Filt),
    let pick := fun (i : Nat) (x : S32) => if f.outputSelect.toNat / 2 ^ i % 2 = 1 then x.toInt else 0
    f.output cfg m =
      wrap32 ((f.unfilteredSum.toInt + pick 0 f.lowpassState + pick 1 f.bandpassState + pick 2 f.highpassState +
        (perModel cfg.mixerDC m).toInt) * f.volume.toNat) ∧
    (f.outputSelect = 0 → ∀ hp bp lp : S32,
      ({ f with highpassState := hp, bandpassState := bp, lowpassState := lp } : Filt).output cfg m = f.output cfg m) ∧
    (f.volume = 0 → f.output cfg m = 0)

/-- 46_chip_assembly.md R312 (decision D43): OUT is `extf.out` divided by `OUT_DIVISOR` toward zero, saturated to 16 bits; it changes nothing. -/
def Obligations.OutDividesAndSaturates : Prop :=
  ∀ s : State, ∃ y : S16, exec .out s = .next { s with result := .sample y } ∧
    y.toInt = clamp16 (s.extf.out.toInt.sign * (s.extf.out.toInt.natAbs / s.cfg.outDivisor : Nat))

/-- 46_chip_assembly.md R310 (decision D33): EXTIN stores `EXTIN_SCALE` of the sample and changes nothing else: sample * 16 * 3, without wrap,
at every sample that `cfg` gives no other value, and so at every sample by default. That `cfg` holds `EXTIN_SCALE` as a list of the samples
with another value is the model's form (assumption log entry 19). -/
def Obligations.ExtinScalesTheSample : Prop :=
  ∀ (x : S16) (s : State), ∃ y : S32,
    exec (.extin x) s = .next { s with chip := { s.chip with externalInput := y }, result := .none } ∧
    ((∀ z, (x, z) ∉ s.cfg.extinScale) → y.toInt = x.toInt * 16 * 3) ∧
    (∀ z, s.cfg.wf = true → (x, z) ∈ s.cfg.extinScale → y = z)

/-- 44_filter.md R245, R262, R264 (decisions D28, D30, D32): the cutoff table and the angular frequency. A piece passes through each of its
points; two points give the straight line between them, truncated; any piece is the cubic spline of R262 whose interior slopes are those of
the chord between the two neighbours and whose second derivative is 0 at both ends, cut at 0 and truncated; of several pieces that cover
disjoint ranges the one that covers the control value counts. `w0` is 2 * pi * f * `W0_SCALE` truncated toward zero, with pi cut to 60
decimal places (the model's, assumption log entry 8), and CLK and CLKN use `w0` cut at two different ceilings. The install number of a
calibration is the model's own (entry 5). -/
def Obligations.CutoffTablePassesThroughThePoints : Prop :=
  (∀ (m : ChipModel) (p : List Knot) (n : Nat) (k : Knot), pieceInv p = true → k ∈ p →
    cutoffF0 m { pieces := [p], install := n } k.x = k.y) ∧
  (∀ (m : ChipModel) (a b : Knot) (n c : Nat), a.x < b.x → a.y ≤ b.y → a.x ≤ c → c ≤ b.x →
    cutoffF0 m { pieces := [[a, b]], install := n } c = a.y + (b.y - a.y) * (c - a.x) / (b.x - a.x)) ∧
  (∀ p : List Knot, pieceInv p = true → ∃ k : Nat → Rat,
    (∀ i, 0 < i → i + 1 < p.length → k i = slopeBetween p (i - 1) (i + 1)) ∧
    (p.length = 2 → k 0 = slopeBetween p 0 1 ∧ k 1 = slopeBetween p 0 1) ∧
    2 * k 0 + k 1 = 3 * slopeBetween p 0 1 ∧
    2 * k (p.length - 1) + k (p.length - 2) = 3 * slopeBetween p (p.length - 2) (p.length - 1) ∧
    ∀ (m : ChipModel) (n i c : Nat), i + 1 < p.length → (pointOf p i).x ≤ c → c ≤ (pointOf p (i + 1)).x →
      (cutoffF0 m { pieces := [p], install := n } c : Int) = (max 0 (cubicOn p k i c)).floor) ∧
  (∀ (m : ChipModel) (cal : Calibration) (p : List Knot) (n c : Nat), (∀ q ∈ cal.pieces, pieceInv q = true) →
    cal.pieces.Pairwise (fun a b => ∀ x, ¬(liesIn x a ∧ liesIn x b)) → p ∈ cal.pieces → liesIn c p →
    cutoffF0 m cal c = cutoffF0 m { pieces := [p], install := n } c) ∧
  (∀ s : State,
    let f := cutoffF0 s.chip.chipModel (perModel s.calib s.chip.chipModel) s.filt.cutoff.toNat
    let real : Rat := 2 * pi60 * f * s.cfg.w0Scale
    0 ≤ (w0 s : Rat) * real ∧ |(w0 s : Rat)| ≤ |real| ∧ |real| < |(w0 s : Rat)| + 1) ∧
  (∀ s : State, 0 ≤ s.cfg.w0Scale →
    (w0ForClk s).toInt = min (w0 s) s.cfg.w0Max1.toInt ∧ (w0ForClkn s).toInt = min (w0 s) s.cfg.w0MaxDt.toInt)

/-! ## Reset and configuration -/

/-- 46_chip_assembly.md R305, R411 (decisions D38, D39): RST sets every run-time field to the value of R40 to R46, whatever it was, and keeps
chip model, calibrations, `enabled`, mute flags, external input and every resampler field; a second RST changes nothing. -/
def Obligations.RstSetsEveryRunTimeField : Prop :=
  ∀ s : State, ∃ t, exec .rst s = .next t ∧ exec .rst t = .next t ∧
    (∀ v, ofVoice t.osc v =
      { accumulator := 0, shiftRegister := s.cfg.lfsrReset, freq := 0, pulseWidth := 0, waveformSelect := 0, test := false,
        ringMod := false, syncEnable := false, msbRising := false }) ∧
    (∀ v, ofVoice t.env v =
      { attack := 0, decay := 0, sustain := 0, release := 0, gate := false, state := .release, envelopeCounter := 0,
        rateCounter := 0, ratePeriod := s.cfg.ratePeriod[0], exponentialCounter := 0, exponentialCounterPeriod := 1,
        holdZero := true }) ∧
    t.filt =
      { cutoff := 0, resonance := 0, routing := 0, voice3Disconnect := false, outputSelect := 0, volume := 0,
        highpassState := 0, bandpassState := 0, lowpassState := 0, unfilteredSum := 0 } ∧
    t.extf = { lowpassState := 0, highpassState := 0, out := 0, enabled := s.extf.enabled } ∧
    t.chip = { busValue := 0, busValueTtl := 0, externalInput := s.chip.externalInput, chipModel := s.chip.chipModel } ∧
    t.cfg = s.cfg ∧ t.muted = s.muted ∧ t.calib = s.calib ∧ t.rs = s.rs ∧ t.pending = s.pending ∧ t.installs = s.installs ∧
    t.result = .none

/-- 70_reset_and_hazards.md R410, 10_state.md R50 (decisions D38 to D40): the power-on state: run-time fields as after RST, model 6581, stage
enabled, nothing muted, external input 0, sampling as after `SAMPLING 985248,fast,44100`. The values are the spec's from general
knowledge, in the default record (assumption log entries 1 and 9), and an all-zero ring is the empty list (entry 13). -/
def Obligations.PowerOnState : Prop :=
  exec .rst State.reset = .next State.reset ∧
  State.reset.chip.chipModel = .m6581 ∧ State.reset.extf.enabled = true ∧ State.reset.chip.externalInput = 0 ∧
  (∀ v, ofVoice State.reset.muted v = false) ∧
  (∀ v, (ofVoice State.reset.osc v).shiftRegister = 0x7FFFF8) ∧
  State.reset.rs.strategy = .fast ∧ State.reset.rs.cyclesPerSample = 1464154 ∧ State.reset.rs.sampleOffset = 0 ∧
  State.reset.rs.samplePrev = 0 ∧ State.reset.rs.sampleHistory = [] ∧ State.reset.rs.sampleIndex = 0 ∧
  (∃ rs, setSampling standardCfg
      { chipClockHz := .finite 985248, strategy := .fast, outputSampleHz := .finite 44100, passbandHz := .auto,
        filterScale := standardCfg.filterScaleDefault } State.reset.rs = .ok rs ∧ rs = State.reset.rs)

/-- 46_chip_assembly.md R313, R314, R315 (decisions D1, D45, D53): MODEL sets the chip model for 6581 and 8580 and fails with code 5 for any other
number; MUTE and EXTEN set their flag; nothing else changes. -/
def Obligations.ModelMuteAndExtenSetOneField : Prop :=
  ∀ s : State,
    (∀ number : Int, exec (.model number) s =
      if number = 6581 then .next { s with chip := { s.chip with chipModel := .m6581 }, result := .ok }
      else if number = 8580 then .next { s with chip := { s.chip with chipModel := .m8580 }, result := .ok }
      else .next { s with result := .configError .chipModel }) ∧
    (∀ v flag, exec (mute v flag) s = .next { s with muted := setVoice s.muted v flag, result := .none }) ∧
    (∀ flag, exec (.exten flag) s = .next { s with extf := { s.extf with enabled := flag }, result := .none })

/-- 47_resampler.md R340, R341, R343 (decisions D47, D50 to D52): SAMPLING with usable operands succeeds: the ratio is rounded to nearest,
phase and previous sample are 0, and the two resample strategies rebuild their tables and zero the ring; nothing else changes. The three
checks on ring, passband and scale must pass only where they apply: always with `SAMPLING_CHECKS_ALL`, else for the two resample strategies.
That the tables are held as the arguments they are built from is the model's form (assumption log entry 6), the empty ring entry 13, the
rational operands entry 12. -/
def Obligations.SamplingInstallsTheRatio : Prop :=
  ∀ (args : SamplingArgs) (fc fs : Rat) (s : State),
    args.chipClockHz = .finite fc → args.outputSampleHz = .finite fs → 0 < fc → 0 < fs →
    (1 ≤ (fc / fs * 65536 + 1 / 2).floor ∧ (fc / fs * 65536 + 1 / 2).floor ≤ 2 ^ 30) →
    (s.cfg.samplingChecksAll = true ∨ args.strategy = .resampleInterpolate ∨ args.strategy = .resampleFast →
      s.cfg.firN * fc / fs < s.cfg.ringSize ∧
      (args.passbandHz = .auto ∨ ∃ q, args.passbandHz = .hz q ∧ q ≤ 9 / 10 * fs / 2) ∧
      9 / 10 ≤ args.filterScale ∧ args.filterScale ≤ 1) →
    let pass : Rat := match args.passbandHz with
      | .hz q => q
      | .auto => if 9 / 10 ≤ 40000 / fs then 9 / 20 * fs else 20000
    let design : FirDesign :=
      { chipClockHz := fc, outputSampleHz := fs, passbandHz := pass, filterScale := args.filterScale,
        strategy := args.strategy, shift := s.cfg.firShift }
    let base := { s.rs with
      strategy := args.strategy
      cyclesPerSample := wrap32 (fc / fs * 65536 + 1 / 2).floor
      sampleOffset := 0
      samplePrev := 0 }
    exec (.sampling args) s = .next { s with
      result := .ok
      rs := if args.strategy = .resampleInterpolate ∨ args.strategy = .resampleFast then
          { base with
            firN := firLength design, firRes := firTables s.cfg design, firDesign := design, sampleHistory := [],
            sampleIndex := 0 }
        else base }

/-- 47_resampler.md R340, 60_exceptions.md R381 to R383 (decisions D50, D53): SAMPLING reports the first failing check in line order, 6, 6, 1, 2,
3, and changes nothing. The last three apply to every strategy with `SAMPLING_CHECKS_ALL`, else to the two resample strategies. (The form of
the operands is the model's, assumption log entry 12.) -/
def Obligations.SamplingReportsTheFirstFailure : Prop :=
  ∀ (args : SamplingArgs) (s : State),
    let fail := fun (c : ConfigCode) => exec (.sampling args) s = .next { s with result := .configError c }
    let checked := s.cfg.samplingChecksAll = true ∨ args.strategy = .resampleInterpolate ∨ args.strategy = .resampleFast
    (args.chipClockHz = .nonFinite ∨ args.outputSampleHz = .nonFinite → fail .frequency) ∧
    (∀ fc fs : Rat, args.chipClockHz = .finite fc → args.outputSampleHz = .finite fs →
      let c := (fc / fs * 65536 + 1 / 2).floor
      let ratioOk := 1 ≤ c ∧ c ≤ 2 ^ 30
      let ringOk := s.cfg.firN * fc / fs < s.cfg.ringSize
      let passOk := ∀ q, args.passbandHz = .hz q → q ≤ 9 / 10 * fs / 2
      (fc ≤ 0 ∨ fs ≤ 0 → fail .frequency) ∧
      (0 < fc → 0 < fs → ¬ratioOk → fail .frequency) ∧
      (0 < fc → 0 < fs → ratioOk → checked → ¬ringOk → fail .ringOverflow) ∧
      (0 < fc → 0 < fs → ratioOk → checked → ringOk → ¬passOk → fail .passband) ∧
      (0 < fc → 0 < fs → ratioOk → checked → ringOk → passOk →
        args.filterScale < 9 / 10 ∨ 1 < args.filterScale → fail .filterScale))

/-- 47_resampler.md R347 (decisions D46, D49): the shape of the FIR tables for a passband up to 0.9 * fs / 2: an odd length of at most
124 * fc / fs + 2 cycles, and as many tables as the least power of two that is not below res * fs / fc. Where R347's exponent would be
negative (res * fs / fc at most 1/2) there is one table: the model's choice (assumption log entry 6). -/
def Obligations.FirTablesHaveTheirShape : Prop :=
  ∀ (cfg : Cfg) (d : FirDesign), 0 < d.chipClockHz → 0 < d.outputSampleHz → d.passbandHz ≤ 9 / 10 * d.outputSampleHz / 2 →
    firLength d % 2 = 1 ∧
    (firLength d : Rat) ≤ 124 * (d.chipClockHz / d.outputSampleHz) + 2 ∧
    (∃ k, firTables cfg d = 2 ^ k ∧
      (firResolution cfg d.strategy : Rat) * d.outputSampleHz / d.chipClockHz ≤ 2 ^ k ∧
      (k ≠ 0 → (2 : Rat) ^ (k - 1) < firResolution cfg d.strategy * d.outputSampleHz / d.chipClockHz))

/-- 44_filter.md R264 (decisions D53, D55): CALIB accepts exactly the lists of 2 to 2048 integer points with control values up to 2047 that
increase strictly on both axes; it installs one piece for the current model only; any other list fails with code 4 and changes nothing.
(The install number and the rational operands are the model's own, assumption log entries 5 and 12.) -/
def Obligations.CalibAcceptsIncreasingPoints : Prop :=
  ∀ (points : List CalibPoint) (s : State),
    let asPoint : Knot → CalibPoint := fun k => { controlValue := .finite k.x, frequencyHz := .finite k.y }
    let good := fun (p : List Knot) => points = p.map asPoint ∧ 2 ≤ p.length ∧ p.length ≤ 2048 ∧ (∀ k ∈ p, k.x ≤ 2047) ∧
      p.Pairwise (fun a b => a.x < b.x ∧ a.y < b.y)
    (∀ p, good p → exec (.calib points) s = .next { s with
      calib := setPerModel s.calib s.chip.chipModel { pieces := [p], install := s.installs }
      installs := s.installs + 1
      result := .ok }) ∧
    ((¬∃ p, good p) → exec (.calib points) s = .next { s with result := .configError .calibration })

/-- 60_exceptions.md R380 to R382, R386: only MODEL, SAMPLING and CALIB can fail, each with its own codes, and a failure changes nothing at all
but what the host is told. -/
def Obligations.ConfigErrorChangesNothing : Prop :=
  ∀ (i : Instr) (s t : State) (c : ConfigCode), exec i s = .next t → t.result = .configError c →
    t = { s with result := .configError c } ∧
    match i with
    | .model _ => c = .chipModel
    | .calib _ => c = .calibration
    | .sampling _ => c = .frequency ∨ c = .ringOverflow ∨ c = .passband ∨ c = .filterScale
    | _ => False

/-- 10_state.md R20 (decision D39): WR, RD, CLK, CLKN, RST, EXTIN, OUT and RENDER change no configuration; MODEL, SAMPLING, CALIB, MUTE and
EXTEN change no run-time state of the chip. -/
def Obligations.RunTimeStateAndConfigurationArePartitioned : Prop :=
  ∀ (i : Instr) (s t : State), exec i s = .next t →
    let sameRunTime := t.osc = s.osc ∧ t.env = s.env ∧ t.filt = s.filt ∧
      t.extf = { s.extf with enabled := t.extf.enabled } ∧ t.chip = { s.chip with chipModel := t.chip.chipModel }
    let sameConfiguration := t.chip.chipModel = s.chip.chipModel ∧ t.extf.enabled = s.extf.enabled ∧ t.muted = s.muted ∧
      t.calib = s.calib ∧ t.rs.strategy = s.rs.strategy ∧ t.rs.cyclesPerSample = s.rs.cyclesPerSample ∧
      t.rs.firN = s.rs.firN ∧ t.rs.firRes = s.rs.firRes ∧ t.rs.firDesign = s.rs.firDesign
    match i with
    | .model _ => sameRunTime ∧ t.rs = s.rs
    | .sampling _ => sameRunTime ∧ t.chip = s.chip
    | .calib _ => sameRunTime ∧ t.rs = s.rs
    | .muteV0 _ => sameRunTime ∧ t.rs = s.rs
    | .muteV1 _ => sameRunTime ∧ t.rs = s.rs
    | .muteV2 _ => sameRunTime ∧ t.rs = s.rs
    | .exten _ => sameRunTime ∧ t.rs = s.rs
    | _ => sameConfiguration

/-! ## RENDER -/

/-- 47_resampler.md R350, R355 (decisions D48, D63): one iteration of `fast`. If the next sample needs more cycles than are left, CLKN clocks the
rest and the phase accounts for them (or nothing is clocked, under `RENDER_KEEPS_REMAINDER`); else, with no room, nothing happens;
else CLKN clocks the cycles to the sample, OUT is the sample, and RENDER goes on with the rest. -/
def Obligations.RenderFastIteration : Prop :=
  ∀ (d m : Nat) (s : State), s.rs.strategy = .fast →
    let nso := (s.rs.sampleOffset + s.rs.cyclesPerSample + wrap32 0x8000).toInt
    let dts := nso / 65536
    (d < dts → s.cfg.renderKeepsRemainder = true → exec (.render d m) s = .next { s with result := .samples [] d }) ∧
    (d < dts → s.cfg.renderKeepsRemainder = false → ∃ t, exec (.clkn d) s = .next t ∧
      exec (.render d m) s = .next { t with
        rs := { t.rs with sampleOffset := s.rs.sampleOffset - wrap32 (d * 65536) }, result := .samples [] 0 }) ∧
    (dts ≤ d → exec (.render d 0) s = .next { s with result := .samples [] d }) ∧
    (0 ≤ dts → dts ≤ d → ∃ t1 t2 y ys rem, exec (.clkn dts.toNat) s = .next t1 ∧
      exec .out t1 = .next { t1 with result := .sample y } ∧
      exec (.render (d - dts.toNat) m) { t1 with rs := { t1.rs with sampleOffset := wrap32 (nso % 65536 - 0x8000) } } = .next t2 ∧
      t2.result = .samples ys rem ∧
      exec (.render d (m + 1)) s = .next { t2 with result := .samples (y :: ys) rem })

/-- 47_resampler.md R351, R355 (decisions D48, D63): one iteration of `interpolate`: single cycles with the raw output one cycle back kept, and the
sample between the two by the phase; and the tail. -/
def Obligations.RenderInterpolateIteration : Prop :=
  ∀ (d m : Nat) (s : State), s.rs.strategy = .interpolate →
    let nso := (s.rs.sampleOffset + s.rs.cyclesPerSample).toInt
    let dts := nso / 65536
    let so := nso % 65536
    (d < dts → s.cfg.renderKeepsRemainder = true → exec (.render d m) s = .next { s with result := .samples [] d }) ∧
    (d < dts → s.cfg.renderKeepsRemainder = false → ∃ t, clkTimesKeepingPrev d s = .next t ∧
      exec (.render d m) s = .next { t with
        rs := { t.rs with sampleOffset := s.rs.sampleOffset - wrap32 (d * 65536) }, result := .samples [] 0 }) ∧
    (dts ≤ d → exec (.render d 0) s = .next { s with result := .samples [] d }) ∧
    (0 ≤ dts → dts ≤ d → ∃ t1 t2 y ys rem, clkTimesKeepingPrev dts.toNat s = .next t1 ∧
      exec (.render (d - dts.toNat) m)
        { t1 with rs := { t1.rs with sampleOffset := wrap32 so, samplePrev := rawOutput t1 } } = .next t2 ∧
      t2.result = .samples ys rem ∧
      y = BitVec.ofInt 16 (t1.rs.samplePrev.toInt +
        (wrap32 (so * ((rawOutput t1).toInt - t1.rs.samplePrev.toInt))).toInt / 65536) ∧
      exec (.render d (m + 1)) s = .next { t2 with result := .samples (y :: ys) rem })

/-- 47_resampler.md R352 to R355 (decisions D48, D63): one iteration of the two resample strategies that produces a sample: every cycle pushes the
raw output into the ring, and the sample is the convolution of R352 or R353 at the new phase, shifted and saturated; and the tail. -/
def Obligations.RenderResampleIteration : Prop :=
  ∀ (d m : Nat) (s : State), s.rs.strategy = .resampleInterpolate ∨ s.rs.strategy = .resampleFast →
    let nso := (s.rs.sampleOffset + s.rs.cyclesPerSample).toInt
    let dts := nso / 65536
    (d < dts → s.cfg.renderKeepsRemainder = true → exec (.render d m) s = .next { s with result := .samples [] d }) ∧
    (d < dts → s.cfg.renderKeepsRemainder = false →
      let t := pushSample^[d] s
      exec (.render d m) s = .next { t with
        rs := { t.rs with sampleOffset := s.rs.sampleOffset - wrap32 (d * 65536) }, result := .samples [] 0 }) ∧
    (dts ≤ d → exec (.render d 0) s = .next { s with result := .samples [] d }) ∧
    (0 ≤ dts → dts ≤ d →
      let t1 := pushSample^[dts.toNat] s
      let t2 := { t1 with rs := { t1.rs with sampleOffset := wrap32 (nso % 65536) } }
      let v := if s.rs.strategy = .resampleFast then firstConvolution s.cfg t2.rs else blendedConvolution s.cfg t2.rs
      ∃ t3 y ys rem, exec (.render (d - dts.toNat) m) t2 = .next t3 ∧ t3.result = .samples ys rem ∧
        y.toInt = clamp16 (v.toInt / 2 ^ s.cfg.firShift) ∧
        exec (.render d (m + 1)) s = .next { t3 with result := .samples (y :: ys) rem })

/-- 47_resampler.md R352 (decision D48): the convolutions in integers: a sum of products, wrapped once, and the blend of two adjacent tables (after
the last table comes table 0, one cycle older). R352 writes the product of the phase and the number of tables without a wrap; that it wraps
at 32 bits, by D6, is the model's inference (DEDUCED, assumption log entry 15). The table entries hold free values (entry 6). -/
def Obligations.ConvolutionsAreSumsOfProducts : Prop :=
  ∀ (cfg : Cfg) (rs : Resampler),
    let dot := fun (window : Nat → S16) (t : Int) =>
      (wrap32 ((List.range rs.firN).map (fun j => (window j).toInt * (firEntry rs t j).toInt)).sum).toInt
    let phase := (wrap32 (rs.sampleOffset.toInt * rs.firRes)).toInt
    let t := phase / 65536
    let v1 := dot (hist cfg rs) t
    let v2 := if t + 1 = rs.firRes then dot (histOlder cfg rs) 0 else dot (hist cfg rs) (t + 1)
    (firstConvolution cfg rs).toInt = v1 ∧
    blendedConvolution cfg rs = wrap32 (v1 + (wrap32 (phase % 65536 * (v2 - v1))).toInt / 65536)

/-- 47_resampler.md R354 (decisions D46, D48): a push is a CLK, after which the new raw output is stored in the ring and the index moves on by
one, modulo `RINGSIZE`; nothing else differs from the state after the CLK. The window moves with it: its newest entry is the new raw output,
and every other entry is the one that stood after it. The canonical form of the ring in the premise, which a push keeps, is the model's
own (assumption log entry 13). -/
def Obligations.PushMovesTheWindow : Prop :=
  (∀ s : State, ∃ u, exec .clk s = .next u ∧
    pushSample s = { u with
      result := s.result
      rs := { s.rs with
        sampleHistory := (pushSample s).rs.sampleHistory
        sampleIndex := (s.rs.sampleIndex + 1) % s.cfg.ringSize } } ∧
    (historyWf s.cfg.ringSize s.rs.sampleHistory = true → s.rs.sampleIndex < s.cfg.ringSize →
      historyWf s.cfg.ringSize (pushSample s).rs.sampleHistory = true ∧
      ∀ i, historyRead (pushSample s).rs.sampleHistory i =
        if i = s.rs.sampleIndex then rawOutput u else historyRead s.rs.sampleHistory i)) ∧
  ∀ s : State, historyWf s.cfg.ringSize s.rs.sampleHistory = true → s.rs.sampleIndex < s.cfg.ringSize → 0 < s.rs.firN →
    s.rs.firN < s.cfg.ringSize →
    let t := pushSample s
    hist t.cfg t.rs (t.rs.firN - 1) = rawOutput t ∧
    (∀ j, j + 1 < t.rs.firN → hist t.cfg t.rs j = hist s.cfg s.rs (j + 1)) ∧
    (∀ j, j < t.rs.firN → histOlder t.cfg t.rs j = hist s.cfg s.rs j)

/-- 47_resampler.md R355 (decision D63): RENDER always completes, with at most `maxSamples` samples, and changes nothing but the fields that a
clocked cycle writes (10_state.md R40, R42, R44 to R46), the resampler's phase, previous sample, ring and index (R47), and the result: no
configuration, and no field of a voice, of the filter or of the chip that only WR, EXTIN and RST write. -/
def Obligations.RenderCompletesWithinTheBuffer : Prop :=
  ∀ (d m : Nat) (s : State), ∃ t ys rem, exec (.render d m) s = .next t ∧ t.result = .samples ys rem ∧ ys.length ≤ m ∧
    (∀ v, ofVoice t.osc v = { ofVoice s.osc v with
      accumulator := (ofVoice t.osc v).accumulator, shiftRegister := (ofVoice t.osc v).shiftRegister,
      msbRising := (ofVoice t.osc v).msbRising }) ∧
    (∀ v, ofVoice t.env v = { ofVoice s.env v with
      state := (ofVoice t.env v).state, envelopeCounter := (ofVoice t.env v).envelopeCounter,
      rateCounter := (ofVoice t.env v).rateCounter, ratePeriod := (ofVoice t.env v).ratePeriod,
      exponentialCounter := (ofVoice t.env v).exponentialCounter,
      exponentialCounterPeriod := (ofVoice t.env v).exponentialCounterPeriod, holdZero := (ofVoice t.env v).holdZero }) ∧
    t.filt = { s.filt with
      highpassState := t.filt.highpassState, bandpassState := t.filt.bandpassState,
      lowpassState := t.filt.lowpassState, unfilteredSum := t.filt.unfilteredSum } ∧
    t.extf = { s.extf with
      lowpassState := t.extf.lowpassState, highpassState := t.extf.highpassState, out := t.extf.out } ∧
    t.chip = { s.chip with busValue := t.chip.busValue, busValueTtl := t.chip.busValueTtl } ∧
    t.cfg = s.cfg ∧ t.muted = s.muted ∧ t.calib = s.calib ∧ t.installs = s.installs ∧ t.pending = s.pending ∧
    t.rs = { s.rs with
      sampleOffset := t.rs.sampleOffset, samplePrev := t.rs.samplePrev, sampleHistory := t.rs.sampleHistory,
      sampleIndex := t.rs.sampleIndex }

/-- 47_resampler.md R345, R355 corner case a: a RENDER that leaves `rem` has clocked delta - rem cycles, under every strategy: the digital part is
that of as many CLK, and the phase has moved by k * `cyclesPerSample` for its k samples less 65536 per cycle, exactly. It leaves cycles
over only because the buffer is full (or under `RENDER_KEEPS_REMAINDER`). -/
def Obligations.RenderAccountsForEveryCycle : Prop :=
  ∀ (d m : Nat) (s : State), s.inv = true → ∃ t ys rem u, exec (.render d m) s = .next t ∧ t.result = .samples ys rem ∧ rem ≤ d ∧
    clkTimes (d - rem) s = .next u ∧ digital t = digital u ∧
    t.rs.sampleOffset.toInt =
      s.rs.sampleOffset.toInt + ys.length * s.rs.cyclesPerSample.toInt - 65536 * ((d : Int) - rem) ∧
    (ys.length < m → s.cfg.renderKeepsRemainder = false → rem = 0)

/-- 47_resampler.md R356 (derived there): the sample count in closed form, with ample room: the largest k whose k-th sample instant is within
the cycles offered. From `sampleOffset` = 0 that is floor((k * cps + bias) / 65536) ≤ d; it depends on nothing but phase and ratio. -/
def Obligations.RenderSampleCount : Prop :=
  ∀ (d m : Nat) (s : State), s.inv = true → 65536 * (d + 1) ≤ m →
    let bias : Int := if s.rs.strategy = .fast then 0x8000 else 0
    let due := fun (k : Int) => (s.rs.sampleOffset.toInt + k * s.rs.cyclesPerSample.toInt + bias) / 65536
    ∃ t ys rem, exec (.render d m) s = .next t ∧ t.result = .samples ys rem ∧
      (ys ≠ [] → due ys.length ≤ d) ∧ d < due (ys.length + 1)

/-! ## The whole machine -/

/-- 43_voice.md R231, 46_chip_assembly.md R313 corner case b (derived there): nothing flows from the analog part, the chip model, the mute flags or the
calibrations to the digital part, whatever the operation but RENDER and SAMPLING's resampler. -/
def Obligations.DigitalPartIgnoresTheRest : Prop :=
  ∀ (i : Instr) (s t s' t' : State), sameDigital s t → exec i s = .next s' → exec i t = .next t' →
    (∀ d m, i ≠ .render d m) → sameDigital s' t'

/-- 00_scope.md R2, 47_resampler.md R356, 95_test_vectors.md X6: RENDER's sample count, its `rem` and the digital part it leaves depend on the
digital part, strategy, ratio and phase alone: not on the chip model, the analog part or the flags. -/
def Obligations.RenderTimingIgnoresTheModel : Prop :=
  ∀ (d m : Nat) (s t : State), sameDigital s t → s.rs.strategy = t.rs.strategy →
    s.rs.cyclesPerSample = t.rs.cyclesPerSample → s.rs.sampleOffset = t.rs.sampleOffset →
    ∃ s' t' ys zs rem, exec (.render d m) s = .next s' ∧ exec (.render d m) t = .next t' ∧
      s'.result = .samples ys rem ∧ t'.result = .samples zs rem ∧ ys.length = zs.length ∧
      sameDigital s' t' ∧ s'.rs.sampleOffset = t'.rs.sampleOffset

/-- Every step keeps the invariant, from every state that has it. The invariant (Sys2Proof/Safety.lean) is 10_state.md R52, what the rules imply
beside it (the constraints of R12, a zero accumulator under `test`, the ratio of R340, the phase of R345, the pieces of R262), and two
forms of the model's own: the canonical form of the ring (assumption log entry 13) and calibration numbers below `installs` (entry 5). -/
def Obligations.StepKeepsTheInvariant : Prop :=
  ∀ s t : State, s.inv = true → step s = .next t → t.inv = true

/-- The invariant of StepKeepsTheInvariant (10_state.md R52 and, of the model's own, assumption log entries 5 and 13) holds at power-on
(70_reset_and_hazards.md R410, decisions D38 to D40: entries 1, 3 and 9). -/
def Obligations.InvariantHoldsAtPowerOn : Prop := State.reset.inv = true

/-- 41_noise_lfsr.md R170, R173, 70_reset_and_hazards.md R438 (derived there): no two registers shift to the same one, zero is a fixed point,
no other register shifts to zero; and with non-zero seeds every step keeps this: a voice whose LFSR is all zero has `test` set. -/
def Obligations.LfsrIsZeroOnlyUnderTest : Prop :=
  (∀ r q : BitVec 23, lfsrShift r = lfsrShift q → r = q) ∧ lfsrShift 0 = 0 ∧ (∀ r : BitVec 23, r ≠ 0 → lfsrShift r ≠ 0) ∧
  ∀ s t : State, s.cfg.lfsrReset ≠ 0 → s.cfg.lfsrReseed ≠ 0 →
    (∀ v, (ofVoice s.osc v).test = true ∨ (ofVoice s.osc v).shiftRegister ≠ 0) → step s = .next t →
    (∀ v, (ofVoice t.osc v).test = true ∨ (ofVoice t.osc v).shiftRegister ≠ 0)
end

