-- ==== Sys2Proof/Laws/Bits.lean ====
section
/-! SUPPORT. The bit fields of command words and of data bytes as arithmetic: what each field helper computes, as a number. -/

namespace Sys2Proof

/-- Concatenation as arithmetic. -/
theorem toNat_cat {n m : Nat} (x : BitVec n) (y : BitVec m) : (x ++ y).toNat = x.toNat * 2 ^ m + y.toNat := by
  rw [BitVec.toNat_append, ← Nat.shiftLeft_add_eq_or_of_lt y.isLt, Nat.shiftLeft_eq]

/-- A field as arithmetic. -/
theorem toNat_field {n : Nat} (x : BitVec n) (lo len : Nat) : (x.extractLsb' lo len).toNat = x.toNat / 2 ^ lo % 2 ^ len := by
  rw [BitVec.extractLsb'_toNat, Nat.shiftRight_eq_div_pow]

/-- A word as arithmetic. -/
theorem toNat_word (c : BitVec 4) (a : BitVec 12) (b : BitVec 16) :
    (word c a b).toNat = c.toNat * 2 ^ 28 + a.toNat * 2 ^ 16 + b.toNat :=
  (toNat_cat (c ++ a) b).trans (by rw [toNat_cat]; omega)

@[simp] theorem wordClass_word (c : BitVec 4) (a : BitVec 12) (b : BitVec 16) : wordClass (word c a b) = c := by
  apply BitVec.eq_of_toNat_eq
  rw [wordClass, toNat_field, toNat_word]
  omega

@[simp] theorem wordArg2_word (c : BitVec 4) (a : BitVec 12) (b : BitVec 16) : wordArg2 (word c a b) = a := by
  apply BitVec.eq_of_toNat_eq
  rw [wordArg2, toNat_field, toNat_word]
  omega

@[simp] theorem wordArg1_word (c : BitVec 4) (a : BitVec 12) (b : BitVec 16) : wordArg1 (word c a b) = b := by
  apply BitVec.eq_of_toNat_eq
  rw [wordArg1, toNat_field, toNat_word]
  omega

/-- Every word is the word of its three fields. -/
theorem word_fields (w : Word) : word (wordClass w) (wordArg2 w) (wordArg1 w) = w := by
  apply BitVec.eq_of_toNat_eq
  rw [toNat_word, wordClass, wordArg2, wordArg1, toNat_field, toNat_field, toNat_field]
  omega

namespace Machine

theorem toNat_hiNibble (b : Byte) : (hiNibble b).toNat = b.toNat / 16 := by
  rw [hiNibble, toNat_field]; omega

theorem toNat_loNibble (b : Byte) : (loNibble b).toNat = b.toNat % 16 := by
  rw [loNibble, toNat_field]; omega

theorem toNat_withLoByte (x : BitVec 16) (b : Byte) : (withLoByte x b).toNat = x.toNat / 256 * 256 + b.toNat :=
  (toNat_cat (x.extractLsb' 8 8) b).trans (by rw [toNat_field]; omega)

theorem toNat_withHiByte (x : BitVec 16) (b : Byte) : (withHiByte x b).toNat = b.toNat * 256 + x.toNat % 256 :=
  (toNat_cat b (x.extractLsb' 0 8)).trans (by rw [toNat_field]; omega)

theorem toNat_withPwLo (x : BitVec 12) (b : Byte) : (withPwLo x b).toNat = x.toNat / 256 * 256 + b.toNat :=
  (toNat_cat (x.extractLsb' 8 4) b).trans (by rw [toNat_field]; omega)

theorem toNat_withPwHi (x : BitVec 12) (b : Byte) : (withPwHi x b).toNat = b.toNat % 16 * 256 + x.toNat % 256 :=
  (toNat_cat (loNibble b) (x.extractLsb' 0 8)).trans (by rw [toNat_field, toNat_loNibble]; omega)

theorem toNat_withFcLo (x : BitVec 11) (b : Byte) : (withFcLo x b).toNat = x.toNat / 8 * 8 + b.toNat % 8 :=
  (toNat_cat (x.extractLsb' 3 8) (b.extractLsb' 0 3)).trans (by rw [toNat_field, toNat_field]; omega)

theorem toNat_withFcHi (x : BitVec 11) (b : Byte) : (withFcHi x b).toNat = b.toNat * 8 + x.toNat % 8 :=
  (toNat_cat b (x.extractLsb' 0 3)).trans (by rw [toNat_field]; omega)

/-- `asr` as floor division. -/
theorem toInt_asr (z : S32) (k : Nat) : (asr z k).toInt = z.toInt / 2 ^ k := by
  rw [asr, BitVec.toInt_sshiftRight, Int.shiftRight_eq_div_pow]
  norm_cast

end Machine

end Sys2Proof
end

