-- ==== Sys2Proof/Laws/Decode.lean ====
section
/-! SUPPORT. What the decoder reads from a word of each class with its must-be-zero fields at zero. -/

namespace Sys2Proof

@[simp] theorem argHi_cat (o v : Byte) : argHi (o ++ v) = o := by
  apply BitVec.eq_of_toNat_eq
  rw [argHi, toNat_field, toNat_cat]
  omega

@[simp] theorem argLo_cat (o v : Byte) : argLo (o ++ v) = v := by
  apply BitVec.eq_of_toNat_eq
  rw [argLo, toNat_field, toNat_cat]
  omega

/-- A WR word (class 0x1). -/
theorem decode_wr (o v : Byte) : decode (Command.plain (word 1 0 (o ++ v))) = .ok (decodeWr o v) := by
  simp [decode, Command.plain, whenZero]

/-- A RD word (class 0x2). -/
theorem decode_rd (o : Byte) : decode (Command.plain (word 2 0 (o ++ 0#8))) = .ok (decodeRd o) := by
  simp [decode, Command.plain, whenZero]

/-- A CLKN word (class 0x3). -/
theorem decode_clkn (a : BitVec 16) : decode (Command.plain (word 3 0 a)) = .ok (.clkn a.toNat) := by
  simp [decode, Command.plain, whenZero]

/-- An EXTIN word (class 0x5). -/
theorem decode_extin (a : S16) : decode (Command.plain (word 5 0 a)) = .ok (.extin a) := by
  simp [decode, Command.plain, whenZero]

/-- A RENDER word (class 0x7). -/
theorem decode_render (m : BitVec 12) (a : BitVec 16) :
    decode (Command.plain (word 7 m a)) = .ok (.render a.toNat m.toNat) := by
  simp [decode, Command.plain]

/-- A MODEL word (class 0x8). -/
theorem decode_model (a : BitVec 16) : decode (Command.plain (word 8 0 a)) = .ok (.model a.toNat) := by
  simp [decode, Command.plain, whenZero]

/-- A SAMPLING word (class 0xB) with its record. -/
theorem decode_sampling (r : SamplingArgs) (ps : List CalibPoint) :
    decode { word := word 0xB 0 0, record := r, points := ps } = .ok (.sampling r) := by
  simp [decode, whenZero]

/-- A CALIB word (class 0xC) with its point list. -/
theorem decode_calib (r : SamplingArgs) (ps : List CalibPoint) :
    decode { word := word 0xC 0 0, record := r, points := ps } = .ok (.calib ps) := by
  simp [decode, whenZero]

end Sys2Proof
end

