-- ==== Sys2Proof/Laws/State.lean ====
section
/-! SUPPORT. The small lemmas of the state: one per field and setter, and those of the three-voice and two-model tables. -/

namespace Sys2Proof.Machine

/-! ## setOsc -/

section
variable (s : State) (x : PerVoice Osc)

@[simp] theorem State.setOsc_cfg : (s.setOsc x).cfg = s.cfg := rfl
@[simp] theorem State.setOsc_osc : (s.setOsc x).osc = x := rfl
@[simp] theorem State.setOsc_env : (s.setOsc x).env = s.env := rfl
@[simp] theorem State.setOsc_muted : (s.setOsc x).muted = s.muted := rfl
@[simp] theorem State.setOsc_filt : (s.setOsc x).filt = s.filt := rfl
@[simp] theorem State.setOsc_extf : (s.setOsc x).extf = s.extf := rfl
@[simp] theorem State.setOsc_chip : (s.setOsc x).chip = s.chip := rfl
@[simp] theorem State.setOsc_calib : (s.setOsc x).calib = s.calib := rfl
@[simp] theorem State.setOsc_rs : (s.setOsc x).rs = s.rs := rfl
@[simp] theorem State.setOsc_pending : (s.setOsc x).pending = s.pending := rfl
@[simp] theorem State.setOsc_result : (s.setOsc x).result = s.result := rfl
@[simp] theorem State.setOsc_installs : (s.setOsc x).installs = s.installs := rfl

end

/-! ## setEnv -/

section
variable (s : State) (x : PerVoice Env)

@[simp] theorem State.setEnv_cfg : (s.setEnv x).cfg = s.cfg := rfl
@[simp] theorem State.setEnv_osc : (s.setEnv x).osc = s.osc := rfl
@[simp] theorem State.setEnv_env : (s.setEnv x).env = x := rfl
@[simp] theorem State.setEnv_muted : (s.setEnv x).muted = s.muted := rfl
@[simp] theorem State.setEnv_filt : (s.setEnv x).filt = s.filt := rfl
@[simp] theorem State.setEnv_extf : (s.setEnv x).extf = s.extf := rfl
@[simp] theorem State.setEnv_chip : (s.setEnv x).chip = s.chip := rfl
@[simp] theorem State.setEnv_calib : (s.setEnv x).calib = s.calib := rfl
@[simp] theorem State.setEnv_rs : (s.setEnv x).rs = s.rs := rfl
@[simp] theorem State.setEnv_pending : (s.setEnv x).pending = s.pending := rfl
@[simp] theorem State.setEnv_result : (s.setEnv x).result = s.result := rfl
@[simp] theorem State.setEnv_installs : (s.setEnv x).installs = s.installs := rfl

end

/-! ## setMuted -/

section
variable (s : State) (x : PerVoice Bool)

@[simp] theorem State.setMuted_cfg : (s.setMuted x).cfg = s.cfg := rfl
@[simp] theorem State.setMuted_osc : (s.setMuted x).osc = s.osc := rfl
@[simp] theorem State.setMuted_env : (s.setMuted x).env = s.env := rfl
@[simp] theorem State.setMuted_muted : (s.setMuted x).muted = x := rfl
@[simp] theorem State.setMuted_filt : (s.setMuted x).filt = s.filt := rfl
@[simp] theorem State.setMuted_extf : (s.setMuted x).extf = s.extf := rfl
@[simp] theorem State.setMuted_chip : (s.setMuted x).chip = s.chip := rfl
@[simp] theorem State.setMuted_calib : (s.setMuted x).calib = s.calib := rfl
@[simp] theorem State.setMuted_rs : (s.setMuted x).rs = s.rs := rfl
@[simp] theorem State.setMuted_pending : (s.setMuted x).pending = s.pending := rfl
@[simp] theorem State.setMuted_result : (s.setMuted x).result = s.result := rfl
@[simp] theorem State.setMuted_installs : (s.setMuted x).installs = s.installs := rfl

end

/-! ## setFilt -/

section
variable (s : State) (x : Filt)

@[simp] theorem State.setFilt_cfg : (s.setFilt x).cfg = s.cfg := rfl
@[simp] theorem State.setFilt_osc : (s.setFilt x).osc = s.osc := rfl
@[simp] theorem State.setFilt_env : (s.setFilt x).env = s.env := rfl
@[simp] theorem State.setFilt_muted : (s.setFilt x).muted = s.muted := rfl
@[simp] theorem State.setFilt_filt : (s.setFilt x).filt = x := rfl
@[simp] theorem State.setFilt_extf : (s.setFilt x).extf = s.extf := rfl
@[simp] theorem State.setFilt_chip : (s.setFilt x).chip = s.chip := rfl
@[simp] theorem State.setFilt_calib : (s.setFilt x).calib = s.calib := rfl
@[simp] theorem State.setFilt_rs : (s.setFilt x).rs = s.rs := rfl
@[simp] theorem State.setFilt_pending : (s.setFilt x).pending = s.pending := rfl
@[simp] theorem State.setFilt_result : (s.setFilt x).result = s.result := rfl
@[simp] theorem State.setFilt_installs : (s.setFilt x).installs = s.installs := rfl

end

/-! ## setExtf -/

section
variable (s : State) (x : Extf)

@[simp] theorem State.setExtf_cfg : (s.setExtf x).cfg = s.cfg := rfl
@[simp] theorem State.setExtf_osc : (s.setExtf x).osc = s.osc := rfl
@[simp] theorem State.setExtf_env : (s.setExtf x).env = s.env := rfl
@[simp] theorem State.setExtf_muted : (s.setExtf x).muted = s.muted := rfl
@[simp] theorem State.setExtf_filt : (s.setExtf x).filt = s.filt := rfl
@[simp] theorem State.setExtf_extf : (s.setExtf x).extf = x := rfl
@[simp] theorem State.setExtf_chip : (s.setExtf x).chip = s.chip := rfl
@[simp] theorem State.setExtf_calib : (s.setExtf x).calib = s.calib := rfl
@[simp] theorem State.setExtf_rs : (s.setExtf x).rs = s.rs := rfl
@[simp] theorem State.setExtf_pending : (s.setExtf x).pending = s.pending := rfl
@[simp] theorem State.setExtf_result : (s.setExtf x).result = s.result := rfl
@[simp] theorem State.setExtf_installs : (s.setExtf x).installs = s.installs := rfl

end

/-! ## setChip -/

section
variable (s : State) (x : Chip)

@[simp] theorem State.setChip_cfg : (s.setChip x).cfg = s.cfg := rfl
@[simp] theorem State.setChip_osc : (s.setChip x).osc = s.osc := rfl
@[simp] theorem State.setChip_env : (s.setChip x).env = s.env := rfl
@[simp] theorem State.setChip_muted : (s.setChip x).muted = s.muted := rfl
@[simp] theorem State.setChip_filt : (s.setChip x).filt = s.filt := rfl
@[simp] theorem State.setChip_extf : (s.setChip x).extf = s.extf := rfl
@[simp] theorem State.setChip_chip : (s.setChip x).chip = x := rfl
@[simp] theorem State.setChip_calib : (s.setChip x).calib = s.calib := rfl
@[simp] theorem State.setChip_rs : (s.setChip x).rs = s.rs := rfl
@[simp] theorem State.setChip_pending : (s.setChip x).pending = s.pending := rfl
@[simp] theorem State.setChip_result : (s.setChip x).result = s.result := rfl
@[simp] theorem State.setChip_installs : (s.setChip x).installs = s.installs := rfl

end

/-! ## setCalib -/

section
variable (s : State) (x : PerModel Calibration)

@[simp] theorem State.setCalib_cfg : (s.setCalib x).cfg = s.cfg := rfl
@[simp] theorem State.setCalib_osc : (s.setCalib x).osc = s.osc := rfl
@[simp] theorem State.setCalib_env : (s.setCalib x).env = s.env := rfl
@[simp] theorem State.setCalib_muted : (s.setCalib x).muted = s.muted := rfl
@[simp] theorem State.setCalib_filt : (s.setCalib x).filt = s.filt := rfl
@[simp] theorem State.setCalib_extf : (s.setCalib x).extf = s.extf := rfl
@[simp] theorem State.setCalib_chip : (s.setCalib x).chip = s.chip := rfl
@[simp] theorem State.setCalib_calib : (s.setCalib x).calib = x := rfl
@[simp] theorem State.setCalib_rs : (s.setCalib x).rs = s.rs := rfl
@[simp] theorem State.setCalib_pending : (s.setCalib x).pending = s.pending := rfl
@[simp] theorem State.setCalib_result : (s.setCalib x).result = s.result := rfl
@[simp] theorem State.setCalib_installs : (s.setCalib x).installs = s.installs := rfl

end

/-! ## setRs -/

section
variable (s : State) (x : Resampler)

@[simp] theorem State.setRs_cfg : (s.setRs x).cfg = s.cfg := rfl
@[simp] theorem State.setRs_osc : (s.setRs x).osc = s.osc := rfl
@[simp] theorem State.setRs_env : (s.setRs x).env = s.env := rfl
@[simp] theorem State.setRs_muted : (s.setRs x).muted = s.muted := rfl
@[simp] theorem State.setRs_filt : (s.setRs x).filt = s.filt := rfl
@[simp] theorem State.setRs_extf : (s.setRs x).extf = s.extf := rfl
@[simp] theorem State.setRs_chip : (s.setRs x).chip = s.chip := rfl
@[simp] theorem State.setRs_calib : (s.setRs x).calib = s.calib := rfl
@[simp] theorem State.setRs_rs : (s.setRs x).rs = x := rfl
@[simp] theorem State.setRs_pending : (s.setRs x).pending = s.pending := rfl
@[simp] theorem State.setRs_result : (s.setRs x).result = s.result := rfl
@[simp] theorem State.setRs_installs : (s.setRs x).installs = s.installs := rfl

end

/-! ## setPending -/

section
variable (s : State) (x : List Command)

@[simp] theorem State.setPending_cfg : (s.setPending x).cfg = s.cfg := rfl
@[simp] theorem State.setPending_osc : (s.setPending x).osc = s.osc := rfl
@[simp] theorem State.setPending_env : (s.setPending x).env = s.env := rfl
@[simp] theorem State.setPending_muted : (s.setPending x).muted = s.muted := rfl
@[simp] theorem State.setPending_filt : (s.setPending x).filt = s.filt := rfl
@[simp] theorem State.setPending_extf : (s.setPending x).extf = s.extf := rfl
@[simp] theorem State.setPending_chip : (s.setPending x).chip = s.chip := rfl
@[simp] theorem State.setPending_calib : (s.setPending x).calib = s.calib := rfl
@[simp] theorem State.setPending_rs : (s.setPending x).rs = s.rs := rfl
@[simp] theorem State.setPending_pending : (s.setPending x).pending = x := rfl
@[simp] theorem State.setPending_result : (s.setPending x).result = s.result := rfl
@[simp] theorem State.setPending_installs : (s.setPending x).installs = s.installs := rfl

end

/-! ## setResult -/

section
variable (s : State) (x : Result)

@[simp] theorem State.setResult_cfg : (s.setResult x).cfg = s.cfg := rfl
@[simp] theorem State.setResult_osc : (s.setResult x).osc = s.osc := rfl
@[simp] theorem State.setResult_env : (s.setResult x).env = s.env := rfl
@[simp] theorem State.setResult_muted : (s.setResult x).muted = s.muted := rfl
@[simp] theorem State.setResult_filt : (s.setResult x).filt = s.filt := rfl
@[simp] theorem State.setResult_extf : (s.setResult x).extf = s.extf := rfl
@[simp] theorem State.setResult_chip : (s.setResult x).chip = s.chip := rfl
@[simp] theorem State.setResult_calib : (s.setResult x).calib = s.calib := rfl
@[simp] theorem State.setResult_rs : (s.setResult x).rs = s.rs := rfl
@[simp] theorem State.setResult_pending : (s.setResult x).pending = s.pending := rfl
@[simp] theorem State.setResult_result : (s.setResult x).result = x := rfl
@[simp] theorem State.setResult_installs : (s.setResult x).installs = s.installs := rfl

end

/-! ## setInstalls -/

section
variable (s : State) (x : Nat)

@[simp] theorem State.setInstalls_cfg : (s.setInstalls x).cfg = s.cfg := rfl
@[simp] theorem State.setInstalls_osc : (s.setInstalls x).osc = s.osc := rfl
@[simp] theorem State.setInstalls_env : (s.setInstalls x).env = s.env := rfl
@[simp] theorem State.setInstalls_muted : (s.setInstalls x).muted = s.muted := rfl
@[simp] theorem State.setInstalls_filt : (s.setInstalls x).filt = s.filt := rfl
@[simp] theorem State.setInstalls_extf : (s.setInstalls x).extf = s.extf := rfl
@[simp] theorem State.setInstalls_chip : (s.setInstalls x).chip = s.chip := rfl
@[simp] theorem State.setInstalls_calib : (s.setInstalls x).calib = s.calib := rfl
@[simp] theorem State.setInstalls_rs : (s.setInstalls x).rs = s.rs := rfl
@[simp] theorem State.setInstalls_pending : (s.setInstalls x).pending = s.pending := rfl
@[simp] theorem State.setInstalls_result : (s.setInstalls x).result = s.result := rfl
@[simp] theorem State.setInstalls_installs : (s.setInstalls x).installs = x := rfl

end

/-! ## Voices -/

/-- Reading the voice that was written gives what was written. -/
@[simp] theorem ofVoice_setVoice_same {α : Type} (t : PerVoice α) (v : VoiceIdx) (a : α) :
    ofVoice (setVoice t v a) v = a := by cases v <;> rfl

/-- Writing one voice leaves the others alone. -/
theorem ofVoice_setVoice_of_ne {α : Type} (t : PerVoice α) {v w : VoiceIdx} (h : w ≠ v) (a : α) :
    ofVoice (setVoice t v a) w = ofVoice t w := by
  cases v <;> cases w <;> first | rfl | exact absurd rfl h

/-- A function over the voices acts on each. -/
@[simp] theorem ofVoice_mapVoices {α β : Type} (f : α → β) (t : PerVoice α) (v : VoiceIdx) :
    ofVoice (mapVoices f t) v = f (ofVoice t v) := by cases v <;> rfl

/-- The same value for all voices is that of each. -/
@[simp] theorem ofVoice_everyVoice {α : Type} (a : α) (v : VoiceIdx) : ofVoice (everyVoice a) v = a := by
  cases v <;> rfl

/-- Three-voice tables that agree at every voice are equal. -/
theorem perVoice_ext {α : Type} {t u : PerVoice α} (h : ∀ v, ofVoice t v = ofVoice u v) : t = u := by
  cases t; cases u
  have h0 := h .v0
  have h1 := h .v1
  have h2 := h .v2
  simp only [ofVoice] at h0 h1 h2
  rw [h0, h1, h2]

/-- The sync destination is the inverse of the sync source (R41). -/
@[simp] theorem syncDest_syncSource (v : VoiceIdx) : syncDest (syncSource v) = v := by cases v <;> rfl

/-- The sync source is the inverse of the sync destination (R41). -/
@[simp] theorem syncSource_syncDest (v : VoiceIdx) : syncSource (syncDest v) = v := by cases v <;> rfl

/-! ## Models -/

/-- Reading the model that was written gives what was written. -/
@[simp] theorem perModel_setPerModel_same {α : Type} (t : PerModel α) (m : ChipModel) (a : α) :
    perModel (setPerModel t m a) m = a := by cases m <;> rfl

/-- Writing one model's entry leaves the other's alone. -/
theorem perModel_setPerModel_of_ne {α : Type} (t : PerModel α) {m n : ChipModel} (h : n ≠ m) (a : α) :
    perModel (setPerModel t m a) n = perModel t n := by
  cases m <;> cases n <;> first | rfl | exact absurd rfl h

end Sys2Proof.Machine
end

