-- ==== Sys2Proof/Laws/Ops.lean ====
section
/-! SUPPORT. One lemma for each shared operation that says what it can do. -/

namespace Sys2Proof.Machine

/-! ## Answers -/

/-- An answer is always a next state: the state with the result set. -/
theorem answer_eq_next {r : Result} {s t : State} : answer r s = .next t ↔ t = s.setResult r := by
  simp [answer, eq_comm]

/-- A completed operation without a result is always a next state. -/
theorem done_eq_next {s t : State} : done s = .next t ↔ t = s.setResult .none := answer_eq_next

/-- Raising `ConfigError` changes nothing but the result (R381). -/
theorem raiseConfigError_eq_next {c : ConfigCode} {s t : State} :
    raiseConfigError c s = .next t ↔ t = s.setResult (.configError c) := answer_eq_next

/-! ## Register writes -/

section
variable (b : Byte) (s : State)

@[simp] theorem latchBus_cfg : (latchBus b s).cfg = s.cfg := rfl
@[simp] theorem latchBus_osc : (latchBus b s).osc = s.osc := rfl
@[simp] theorem latchBus_env : (latchBus b s).env = s.env := rfl
@[simp] theorem latchBus_muted : (latchBus b s).muted = s.muted := rfl
@[simp] theorem latchBus_filt : (latchBus b s).filt = s.filt := rfl
@[simp] theorem latchBus_extf : (latchBus b s).extf = s.extf := rfl
@[simp] theorem latchBus_calib : (latchBus b s).calib = s.calib := rfl
@[simp] theorem latchBus_rs : (latchBus b s).rs = s.rs := rfl
@[simp] theorem latchBus_pending : (latchBus b s).pending = s.pending := rfl
@[simp] theorem latchBus_installs : (latchBus b s).installs = s.installs := rfl
@[simp] theorem latchBus_busValue : (latchBus b s).chip.busValue = b := rfl
@[simp] theorem latchBus_busValueTtl : (latchBus b s).chip.busValueTtl = 0x2000 := rfl
@[simp] theorem latchBus_externalInput : (latchBus b s).chip.externalInput = s.chip.externalInput := rfl
@[simp] theorem latchBus_chipModel : (latchBus b s).chip.chipModel = s.chip.chipModel := rfl

end

/-! ## The sample ring -/

/-- The canonical form from a higher bound is one from a lower bound. -/
theorem historyWfFrom_mono {size : Nat} {h : History} {low low' : Nat} (le : low' ≤ low)
    (wf : historyWfFrom size low h = true) : historyWfFrom size low' h = true := by
  cases h with
  | nil => rfl
  | cons e rest =>
    obtain ⟨j, y⟩ := e
    simp only [historyWfFrom, Bool.and_eq_true, decide_eq_true_eq] at wf ⊢
    exact ⟨⟨⟨by omega, wf.1.1.2⟩, wf.1.2⟩, wf.2⟩

/-- Writing an entry keeps the canonical form. -/
theorem historyWrite_wfFrom {size : Nat} {h : History} {i : Nat} (y : S16) (hi : i < size) :
    ∀ {low : Nat}, low ≤ i → historyWfFrom size low h = true → historyWfFrom size low (historyWrite h i y) = true := by
  induction h with
  | nil =>
    intro low hl _
    by_cases hy : y = 0#16
    · simp [historyWrite, hy, historyWfFrom]
    · simp [historyWrite, hy, historyWfFrom, hl, hi]
  | cons e rest ih =>
    obtain ⟨j, z⟩ := e
    intro low hl wf
    have wf' := wf
    simp only [historyWfFrom, Bool.and_eq_true, decide_eq_true_eq] at wf'
    obtain ⟨⟨⟨hlj, hjs⟩, hz⟩, hrest⟩ := wf'
    by_cases hij : i < j
    · by_cases hy : y = 0#16
      · simpa [historyWrite, hij, hy] using wf
      · simp [historyWrite, hij, hy, historyWfFrom, hl, hi, hjs, hrest]
        omega
    · by_cases hji : j = i
      · subst hji
        by_cases hy : y = 0#16
        · simpa [historyWrite, hy] using historyWfFrom_mono (by omega) hrest
        · simp [historyWrite, hy, historyWfFrom, hl, hi, hrest]
      · simp only [historyWrite, hij, hji, if_false, historyWfFrom, Bool.and_eq_true, decide_eq_true_eq]
        exact ⟨⟨⟨hlj, hjs⟩, hz⟩, ih (by omega) hrest⟩

/-- Every write into the ring keeps its canonical form. -/
theorem historyWrite_wf {size : Nat} {h : History} {i : Nat} (y : S16) (hi : i < size) (wf : historyWf size h = true) :
    historyWf size (historyWrite h i y) = true := historyWrite_wfFrom y hi (Nat.zero_le i) wf

/-- An entry below every listed index reads as 0. -/
theorem historyRead_below {size : Nat} {h : History} : ∀ {low i : Nat}, i < low → historyWfFrom size low h = true →
    historyRead h i = 0 := by
  induction h with
  | nil => intros; rfl
  | cons e rest ih =>
    obtain ⟨j, y⟩ := e
    intro low i hi wf
    simp only [historyWfFrom, Bool.and_eq_true, decide_eq_true_eq] at wf
    obtain ⟨⟨⟨hlj, -⟩, -⟩, hrest⟩ := wf
    have hne : j ≠ i := by omega
    simp only [historyRead, hne, if_false]
    exact ih (by omega) hrest

/-- Reading back the entry that was written. -/
theorem historyRead_write_same {size : Nat} {h : History} (i : Nat) (y : S16) : ∀ {low : Nat},
    historyWfFrom size low h = true → historyRead (historyWrite h i y) i = y := by
  induction h with
  | nil =>
    intro low _
    by_cases hy : y = 0#16 <;> simp [historyWrite, historyRead, hy]
  | cons e rest ih =>
    obtain ⟨j, z⟩ := e
    intro low wf
    simp only [historyWfFrom, Bool.and_eq_true, decide_eq_true_eq] at wf
    obtain ⟨-, hrest⟩ := wf
    by_cases hij : i < j
    · by_cases hy : y = 0#16
      · have hne : j ≠ i := by omega
        have below := historyRead_below (show i < j + 1 by omega) hrest
        simpa [historyWrite, hij, hy, historyRead, hne] using below
      · simp [historyWrite, hij, hy, historyRead]
    · by_cases hji : j = i
      · subst hji
        by_cases hy : y = 0#16
        · simpa [historyWrite, hy] using historyRead_below (Nat.lt_succ_self j) hrest
        · simp [historyWrite, hy, historyRead]
      · simp only [historyWrite, hij, hji, if_false, historyRead]
        exact ih hrest

/-- A write leaves every other entry alone. -/
theorem historyRead_write_of_ne {h : History} {i k : Nat} (hk : k ≠ i) (y : S16) :
    historyRead (historyWrite h i y) k = historyRead h k := by
  induction h with
  | nil =>
    by_cases hy : y = 0#16
    · simp [historyWrite, hy]
    · simp [historyWrite, hy, historyRead, Ne.symm hk]
  | cons e rest ih =>
    obtain ⟨j, z⟩ := e
    by_cases hij : i < j
    · by_cases hy : y = 0#16
      · simp [historyWrite, hij, hy]
      · simp [historyWrite, hij, hy, historyRead, Ne.symm hk]
    · by_cases hji : j = i
      · subst hji
        by_cases hy : y = 0#16 <;> simp [historyWrite, hy, historyRead, Ne.symm hk]
      · simp only [historyWrite, hij, hji, if_false, historyRead, ih]

/-! ## Sub-steps -/

/-- No sub-step is taken over no cycles. -/
@[simp] theorem subSteps_zero {α : Type} (step : Nat) (f : Nat → α → α) (fuel : Nat) (a : α) :
    subSteps step f fuel 0 a = a := by cases fuel <;> simp [subSteps]

/-- At most one sub-step's worth of cycles is one sub-step. -/
theorem subSteps_of_le {α : Type} {step n : Nat} (f : Nat → α → α) {fuel : Nat} (hf : 0 < fuel) (h0 : 0 < n)
    (hn : n ≤ step) (a : α) : subSteps step f fuel n a = f n a := by
  obtain ⟨fuel, rfl⟩ := Nat.exists_eq_succ_of_ne_zero hf.ne'
  simp [subSteps, h0.ne', Nat.min_eq_left hn]

/-- More cycles than one sub-step: a full sub-step, then the rest. -/
theorem subSteps_of_gt {α : Type} {step n : Nat} (f : Nat → α → α) (fuel : Nat) (h : step < n) (a : α) :
    subSteps step f (fuel + 1) n a = subSteps step f fuel (n - step) (f step a) := by
  have h0 : n ≠ 0 := by omega
  simp [subSteps, h0, Nat.min_eq_right h.le]

/-- A property that every sub-step keeps is kept by the loop. -/
theorem subSteps_keeps {α : Type} (P : α → Prop) {step : Nat} {f : Nat → α → α} (hf : ∀ k a, P a → P (f k a)) :
    ∀ (fuel n : Nat) (a : α), P a → P (subSteps step f fuel n a) := by
  intro fuel
  induction fuel with
  | zero => intro n a h; exact h
  | succ fuel ih =>
    intro n a h
    by_cases h0 : n = 0
    · simpa [subSteps, h0] using h
    · simpa [subSteps, h0] using ih _ _ (hf _ _ h)

end Sys2Proof.Machine
end

