-- ==== Sys2Proof/Laws/PerInstr.lean ====
section
/-! SUPPORT. Families of facts about every operation, one lemma per constructor. -/

namespace Sys2Proof.Laws

/-- The word that carries an operation is never `invalid`: the decoder reads some operation from it (30_encoding.md R101, R106). -/
def NeverInvalid.Statement (i : Instr) : Prop := ∃ j, decode (encode i) = .ok j

theorem NeverInvalid.wrFreqLo0 (value : Byte) : NeverInvalid.Statement (.wrFreqLo0 value) := ⟨_, decode_wr _ _⟩

theorem NeverInvalid.wrFreqHi0 (value : Byte) : NeverInvalid.Statement (.wrFreqHi0 value) := ⟨_, decode_wr _ _⟩

theorem NeverInvalid.wrPwLo0 (value : Byte) : NeverInvalid.Statement (.wrPwLo0 value) := ⟨_, decode_wr _ _⟩

theorem NeverInvalid.wrPwHi0 (value : Byte) : NeverInvalid.Statement (.wrPwHi0 value) := ⟨_, decode_wr _ _⟩

theorem NeverInvalid.wrControl0 (value : Byte) : NeverInvalid.Statement (.wrControl0 value) := ⟨_, decode_wr _ _⟩

theorem NeverInvalid.wrAttackDecay0 (value : Byte) : NeverInvalid.Statement (.wrAttackDecay0 value) :=
  ⟨_, decode_wr _ _⟩

theorem NeverInvalid.wrSustainRelease0 (value : Byte) : NeverInvalid.Statement (.wrSustainRelease0 value) :=
  ⟨_, decode_wr _ _⟩

theorem NeverInvalid.wrFreqLo1 (value : Byte) : NeverInvalid.Statement (.wrFreqLo1 value) := ⟨_, decode_wr _ _⟩

theorem NeverInvalid.wrFreqHi1 (value : Byte) : NeverInvalid.Statement (.wrFreqHi1 value) := ⟨_, decode_wr _ _⟩

theorem NeverInvalid.wrPwLo1 (value : Byte) : NeverInvalid.Statement (.wrPwLo1 value) := ⟨_, decode_wr _ _⟩

theorem NeverInvalid.wrPwHi1 (value : Byte) : NeverInvalid.Statement (.wrPwHi1 value) := ⟨_, decode_wr _ _⟩

theorem NeverInvalid.wrControl1 (value : Byte) : NeverInvalid.Statement (.wrControl1 value) := ⟨_, decode_wr _ _⟩

theorem NeverInvalid.wrAttackDecay1 (value : Byte) : NeverInvalid.Statement (.wrAttackDecay1 value) :=
  ⟨_, decode_wr _ _⟩

theorem NeverInvalid.wrSustainRelease1 (value : Byte) : NeverInvalid.Statement (.wrSustainRelease1 value) :=
  ⟨_, decode_wr _ _⟩

theorem NeverInvalid.wrFreqLo2 (value : Byte) : NeverInvalid.Statement (.wrFreqLo2 value) := ⟨_, decode_wr _ _⟩

theorem NeverInvalid.wrFreqHi2 (value : Byte) : NeverInvalid.Statement (.wrFreqHi2 value) := ⟨_, decode_wr _ _⟩

theorem NeverInvalid.wrPwLo2 (value : Byte) : NeverInvalid.Statement (.wrPwLo2 value) := ⟨_, decode_wr _ _⟩

theorem NeverInvalid.wrPwHi2 (value : Byte) : NeverInvalid.Statement (.wrPwHi2 value) := ⟨_, decode_wr _ _⟩

theorem NeverInvalid.wrControl2 (value : Byte) : NeverInvalid.Statement (.wrControl2 value) := ⟨_, decode_wr _ _⟩

theorem NeverInvalid.wrAttackDecay2 (value : Byte) : NeverInvalid.Statement (.wrAttackDecay2 value) :=
  ⟨_, decode_wr _ _⟩

theorem NeverInvalid.wrSustainRelease2 (value : Byte) : NeverInvalid.Statement (.wrSustainRelease2 value) :=
  ⟨_, decode_wr _ _⟩

theorem NeverInvalid.wrFcLo (value : Byte) : NeverInvalid.Statement (.wrFcLo value) := ⟨_, decode_wr _ _⟩

theorem NeverInvalid.wrFcHi (value : Byte) : NeverInvalid.Statement (.wrFcHi value) := ⟨_, decode_wr _ _⟩

theorem NeverInvalid.wrResFilt (value : Byte) : NeverInvalid.Statement (.wrResFilt value) := ⟨_, decode_wr _ _⟩

theorem NeverInvalid.wrModeVol (value : Byte) : NeverInvalid.Statement (.wrModeVol value) := ⟨_, decode_wr _ _⟩

theorem NeverInvalid.wrUnmapped1919 (value : Byte) : NeverInvalid.Statement (.wrUnmapped1919 value) :=
  ⟨_, decode_wr _ _⟩

theorem NeverInvalid.wrUnmapped1A1B (offsetLow : BitVec 1) (value : Byte) : NeverInvalid.Statement (.wrUnmapped1A1B offsetLow value) :=
  ⟨_, decode_wr _ _⟩

theorem NeverInvalid.wrUnmapped1C1F (offsetLow : BitVec 2) (value : Byte) : NeverInvalid.Statement (.wrUnmapped1C1F offsetLow value) :=
  ⟨_, decode_wr _ _⟩

theorem NeverInvalid.wrUnmapped203F (offsetLow : BitVec 5) (value : Byte) : NeverInvalid.Statement (.wrUnmapped203F offsetLow value) :=
  ⟨_, decode_wr _ _⟩

theorem NeverInvalid.wrUnmapped407F (offsetLow : BitVec 6) (value : Byte) : NeverInvalid.Statement (.wrUnmapped407F offsetLow value) :=
  ⟨_, decode_wr _ _⟩

theorem NeverInvalid.wrUnmapped80FF (offsetLow : BitVec 7) (value : Byte) : NeverInvalid.Statement (.wrUnmapped80FF offsetLow value) :=
  ⟨_, decode_wr _ _⟩

theorem NeverInvalid.rdPotx : NeverInvalid.Statement .rdPotx := ⟨_, decode_rd _⟩

theorem NeverInvalid.rdPoty : NeverInvalid.Statement .rdPoty := ⟨_, decode_rd _⟩

theorem NeverInvalid.rdOsc3 : NeverInvalid.Statement .rdOsc3 := ⟨_, decode_rd _⟩

theorem NeverInvalid.rdEnv3 : NeverInvalid.Statement .rdEnv3 := ⟨_, decode_rd _⟩

theorem NeverInvalid.rdBus000F (offsetLow : BitVec 4) : NeverInvalid.Statement (.rdBus000F offsetLow) :=
  ⟨_, decode_rd _⟩

theorem NeverInvalid.rdBus1017 (offsetLow : BitVec 3) : NeverInvalid.Statement (.rdBus1017 offsetLow) :=
  ⟨_, decode_rd _⟩

theorem NeverInvalid.rdBus1818 : NeverInvalid.Statement .rdBus1818 := ⟨_, decode_rd _⟩

theorem NeverInvalid.rdBus1D1D : NeverInvalid.Statement .rdBus1D1D := ⟨_, decode_rd _⟩

theorem NeverInvalid.rdBus1E1F (offsetLow : BitVec 1) : NeverInvalid.Statement (.rdBus1E1F offsetLow) :=
  ⟨_, decode_rd _⟩

theorem NeverInvalid.rdBus203F (offsetLow : BitVec 5) : NeverInvalid.Statement (.rdBus203F offsetLow) :=
  ⟨_, decode_rd _⟩

theorem NeverInvalid.rdBus407F (offsetLow : BitVec 6) : NeverInvalid.Statement (.rdBus407F offsetLow) :=
  ⟨_, decode_rd _⟩

theorem NeverInvalid.rdBus80FF (offsetLow : BitVec 7) : NeverInvalid.Statement (.rdBus80FF offsetLow) :=
  ⟨_, decode_rd _⟩

theorem NeverInvalid.clk : NeverInvalid.Statement .clk := ⟨_, rfl⟩

theorem NeverInvalid.clkn (delta : Nat) : NeverInvalid.Statement (.clkn delta) := ⟨_, decode_clkn _⟩

theorem NeverInvalid.rst : NeverInvalid.Statement .rst := ⟨_, rfl⟩

theorem NeverInvalid.extin (sample : S16) : NeverInvalid.Statement (.extin sample) := ⟨_, decode_extin _⟩

theorem NeverInvalid.out : NeverInvalid.Statement .out := ⟨_, rfl⟩

theorem NeverInvalid.render (delta : Nat) (maxSamples : Nat) : NeverInvalid.Statement (.render delta maxSamples) :=
  ⟨_, decode_render _ _⟩

theorem NeverInvalid.model (number : Int) : NeverInvalid.Statement (.model number) := ⟨_, decode_model _⟩

theorem NeverInvalid.muteV0 (flag : Bool) : NeverInvalid.Statement (.muteV0 flag) := by cases flag <;> exact ⟨_, rfl⟩

theorem NeverInvalid.muteV1 (flag : Bool) : NeverInvalid.Statement (.muteV1 flag) := by cases flag <;> exact ⟨_, rfl⟩

theorem NeverInvalid.muteV2 (flag : Bool) : NeverInvalid.Statement (.muteV2 flag) := by cases flag <;> exact ⟨_, rfl⟩

theorem NeverInvalid.exten (flag : Bool) : NeverInvalid.Statement (.exten flag) := by cases flag <;> exact ⟨_, rfl⟩

theorem NeverInvalid.sampling (args : SamplingArgs) : NeverInvalid.Statement (.sampling args) :=
  ⟨_, decode_sampling _ _⟩

theorem NeverInvalid.calib (points : List CalibPoint) : NeverInvalid.Statement (.calib points) :=
  ⟨_, decode_calib _ _⟩

end Sys2Proof.Laws
end

