-- ==== Sys2Proof/Machine/Script.lean ====
section
/-! DEFINITION. The script notation's operations and pseudo-operations as operation lists (30_encoding.md R107, R108), and the operation that
an event at the pins stands for (R110, non-normative). Nothing else of the model depends on this file. -/

namespace Sys2Proof.Machine

/-- A line of a script: an operation as R107 writes it, or a pseudo-operation of R108. -/
inductive ScriptLine where
  /-- `W offset,value`. -/
  | w (offset value : Byte)
  /-- `R offset`. -/
  | r (offset : Byte)
  /-- Any other operation that takes its operands as they are. -/
  | op (i : Instr)
  /-- `SAMPLING clock,strategy,rate[,pass[,scale]]`: an omitted passband is `auto`, an omitted scale `FILTER_SCALE_DEFAULT`. -/
  | sampling (clock : HostReal) (strategy : Strategy) (rate : HostReal) (pass : Option Passband) (scale : Option Rat)
  /-- `FREQ v,w`. -/
  | freq (v : VoiceIdx) (x : BitVec 16)
  /-- `PW v,w`. -/
  | pw (v : VoiceIdx) (x : BitVec 12)
  /-- `CTRL v,x`. -/
  | ctrl (v : VoiceIdx) (x : Byte)
  /-- `AD v,x`. -/
  | ad (v : VoiceIdx) (x : Byte)
  /-- `SR v,x`. -/
  | sr (v : VoiceIdx) (x : Byte)
  /-- `CUTOFF w`. -/
  | cutoff (x : BitVec 11)
  /-- `RESFILT x`. -/
  | resfilt (x : Byte)
  /-- `MODEVOL x`. -/
  | modevol (x : Byte)
  /-- `CLK*n`: n successive CLK, not CLKN. -/
  | clkTimes (n : Nat)
  deriving DecidableEq, Repr

/-- `b`, the first offset of voice v: 7 * v (R108). -/
def voiceBase : VoiceIdx → Byte
  | .v0 => 0x00
  | .v1 => 0x07
  | .v2 => 0x0E

/-- The expansion of a line (R108). -/
def expandLine (cfg : Cfg) : ScriptLine → List Instr
  | .w offset value => [decodeWr offset value]
  | .r offset => [decodeRd offset]
  | .op i => [i]
  | .sampling clock strategy rate pass scale =>
    [.sampling
      { chipClockHz := clock, strategy := strategy, outputSampleHz := rate, passbandHz := pass.getD .auto,
        filterScale := scale.getD cfg.filterScaleDefault }]
  | .freq v x => [decodeWr (voiceBase v) (x.extractLsb' 0 8), decodeWr (voiceBase v + 1) (x.extractLsb' 8 8)]
  | .pw v x => [decodeWr (voiceBase v + 2) (x.extractLsb' 0 8), decodeWr (voiceBase v + 3) ((x.extractLsb' 8 4).setWidth 8)]
  | .ctrl v x => [decodeWr (voiceBase v + 4) x]
  | .ad v x => [decodeWr (voiceBase v + 5) x]
  | .sr v x => [decodeWr (voiceBase v + 6) x]
  | .cutoff x => [decodeWr 0x15 ((x.extractLsb' 0 3).setWidth 8), decodeWr 0x16 (x.extractLsb' 3 8)]
  | .resfilt x => [decodeWr 0x17 x]
  | .modevol x => [decodeWr 0x18 x]
  | .clkTimes n => List.replicate n .clk

/-- A script as a list of operations, at the operation level, which has no limit on an operand (R100, R101). -/
def scriptOperations (cfg : Cfg) (lines : List ScriptLine) : List Instr := lines.flatMap (expandLine cfg)

/-- A script as the host's command stream. Where an operand is too large for its field of the command word ("not expressible in a word",
R101), as in `RENDER 100000,100000`, the script has no command stream: R107 leaves open what becomes of such a line, and this is the
model's choice (DESIGN CHOICE, assumption log entry 23). -/
def scriptCommands (cfg : Cfg) (lines : List ScriptLine) : Option (List Command) :=
  if (scriptOperations cfg lines).all Instr.wf then some ((scriptOperations cfg lines).map encode) else none

/-- The inputs sampled at one rising `clk` edge (R110): at most one bus access, the external sample, and reset. -/
structure PinEdge where
  rstN : Bool
  csN : Bool
  rw : Bool
  addr : Byte
  din : Byte
  extIn : S16
  deriving DecidableEq, Repr

/-- The operations an edge stands for (R110): the bus access and the EXTIN before the edge's CLK, RST instead of CLK while `rst_n` is
low, and the OUT that `audio_raw` shows after it. R110 ties the bus access, the EXTIN and the OUT to a CLK and is silent about them at an
edge with `rst_n` low (R411 says only that the edge is a RST); there the model performs the bus access and the EXTIN before the RST and
the OUT after it, and gives the bus access before the EXTIN at every edge: the model's choice (DESIGN CHOICE, assumption log entry 24). -/
def pinOperations (p : PinEdge) : List Instr :=
  (if p.csN then [] else if p.rw then [decodeRd p.addr] else [decodeWr p.addr p.din]) ++
  [.extin p.extIn] ++ (if p.rstN then [.clk] else [.rst]) ++ [.out]

end Sys2Proof.Machine
end

