-- ==== Sys2Proof/Tests/Slice0.lean ====
section
/-! SUPPORT. The model's own tests: well-formedness, decoding of words written out from the spec, single steps with the numbers of
95_test_vectors.md and of the rules' examples, and for every statement with hypotheses a state and operands that meet them. -/

namespace Sys2Proof.Tests

open Sys2Proof.Machine Sys2Proof.Claims

-- One theorem at a time: the kernel evaluations of this file, run all at once, would take one thread each.
set_option Elab.async false

/-! ## Helpers -/

/-- The next state of an answer (the power-on state where there is none). -/
def stateOf : Outcome → State
  | .next s => s
  | .fault _ => State.reset
  | .refused _ => State.reset

/-- The state after an operation. -/
def after (i : Instr) (s : State) : State := stateOf (exec i s)

/-- What the decoder reads from a word. -/
def reads (w : Word) (i : Instr) : Prop := decode (Command.plain w) = .ok i

/-- The power-on state with oscillator v replaced. -/
def withOsc (v : VoiceIdx) (f : Osc → Osc) : State := modifyOsc v f State.reset

/-- The power-on state with envelope v replaced. -/
def withEnv (v : VoiceIdx) (f : Env → Env) : State := modifyEnv v f State.reset

/-- The power-on state with the filter replaced. -/
def withFilt (f : Filt → Filt) : State := modifyFilt f State.reset

/-- The power-on state of an 8580. -/
def reset8580 : State := State.reset.setChip { State.reset.chip with chipModel := .m8580 }

/-! ## Well-formedness: an ill-formed term for each check -/

theorem test_wf_refuses_clkn_delta : (Instr.clkn 65536).wf = false := by decide
theorem test_wf_refuses_render_delta : (Instr.render 65536 0).wf = false := by decide
theorem test_wf_refuses_render_samples : (Instr.render 0 4096).wf = false := by decide
theorem test_wf_refuses_model_numbers : (Instr.model (-1)).wf = false ∧ (Instr.model 65536).wf = false := by decide
theorem test_wf_accepts_the_bounds :
    (Instr.clkn 65535).wf = true ∧ (Instr.render 65535 4095).wf = true ∧ (Instr.model 65535).wf = true := by decide
theorem test_cfg_wf_accepts_the_defaults : standardCfg.wf = true := by decide +kernel
theorem test_cfg_wf_refuses_zero_period :
    ({ standardCfg with ratePeriod := Vector.replicate 16 0 } : Cfg).wf = false := by decide +kernel
theorem test_cfg_wf_refuses_zero_steps :
    ({ standardCfg with filtBulkStep := 0 } : Cfg).wf = false ∧ ({ standardCfg with extfBulkStep := 0 } : Cfg).wf = false := by
  decide +kernel
theorem test_cfg_wf_refuses_zero_divisor_and_ring :
    ({ standardCfg with outDivisor := 0 } : Cfg).wf = false ∧ ({ standardCfg with ringSize := 0 } : Cfg).wf = false := by
  decide +kernel
theorem test_cfg_wf_refuses_extin_scale :
    ({ standardCfg with extinScale := [(2, 5), (1, 5)] } : Cfg).wf = false ∧
    ({ standardCfg with extinScale := [(1, 48)] } : Cfg).wf = false := by decide +kernel
theorem test_cfg_wf_refuses_filter_scale :
    ({ standardCfg with filterScaleDefault := 8 / 10 } : Cfg).wf = false ∧
    ({ standardCfg with filterScaleDefault := 11 / 10 } : Cfg).wf = false := by decide +kernel
theorem test_cfg_wf_refuses_patched_variants :
    ({ standardCfg with patchedNoise := true } : Cfg).wf = false ∧
    ({ standardCfg with patchedFilter := true } : Cfg).wf = false := by decide +kernel

/-! ## Decoding: a word of every constructor, written out from 30_encoding.md R101, R102, R103 -/

theorem test_decode_voice_0 :
    reads 0x10000034 (.wrFreqLo0 0x34) ∧ reads 0x10000112 (.wrFreqHi0 0x12) ∧ reads 0x10000255 (.wrPwLo0 0x55) ∧
    reads 0x100003F8 (.wrPwHi0 0xF8) ∧ reads 0x10000441 (.wrControl0 0x41) ∧ reads 0x100005A7 (.wrAttackDecay0 0xA7) ∧
    reads 0x100006F0 (.wrSustainRelease0 0xF0) := by unfold reads; decide

theorem test_decode_voice_1 :
    reads 0x10000700 (.wrFreqLo1 0x00) ∧ reads 0x10000820 (.wrFreqHi1 0x20) ∧ reads 0x10000955 (.wrPwLo1 0x55) ∧
    reads 0x10000AF8 (.wrPwHi1 0xF8) ∧ reads 0x10000B41 (.wrControl1 0x41) ∧ reads 0x10000C12 (.wrAttackDecay1 0x12) ∧
    reads 0x10000D34 (.wrSustainRelease1 0x34) := by unfold reads; decide

theorem test_decode_voice_2 :
    reads 0x10000EFF (.wrFreqLo2 0xFF) ∧ reads 0x10000FFF (.wrFreqHi2 0xFF) ∧ reads 0x10001034 (.wrPwLo2 0x34) ∧
    reads 0x10001108 (.wrPwHi2 0x08) ∧ reads 0x1000128E (.wrControl2 0x8E) ∧ reads 0x100013F0 (.wrAttackDecay2 0xF0) ∧
    reads 0x100014C3 (.wrSustainRelease2 0xC3) := by unfold reads; decide

theorem test_decode_filter :
    reads 0x100015FF (.wrFcLo 0xFF) ∧ reads 0x10001680 (.wrFcHi 0x80) ∧ reads 0x100017F1 (.wrResFilt 0xF1) ∧
    reads 0x1000189F (.wrModeVol 0x9F) := by unfold reads; decide

theorem test_decode_unmapped_writes :
    reads 0x10001901 (.wrUnmapped1919 0x01) ∧ reads 0x10001B02 (.wrUnmapped1A1B 1 0x02) ∧
    reads 0x10001E03 (.wrUnmapped1C1F 2 0x03) ∧ reads 0x10002A55 (.wrUnmapped203F 0x0A 0x55) ∧
    reads 0x10007F04 (.wrUnmapped407F 0x3F 0x04) ∧ reads 0x10008005 (.wrUnmapped80FF 0x00 0x05) := by unfold reads; decide

theorem test_decode_reads :
    reads 0x20001900 .rdPotx ∧ reads 0x20001A00 .rdPoty ∧ reads 0x20001B00 .rdOsc3 ∧ reads 0x20001C00 .rdEnv3 ∧
    reads 0x20000F00 (.rdBus000F 0xF) ∧ reads 0x20001500 (.rdBus1017 5) ∧ reads 0x20001800 .rdBus1818 ∧
    reads 0x20001D00 .rdBus1D1D ∧ reads 0x20001F00 (.rdBus1E1F 1) ∧ reads 0x20002000 (.rdBus203F 0) ∧
    reads 0x20005500 (.rdBus407F 0x15) ∧ reads 0x2000FF00 (.rdBus80FF 0x7F) := by unfold reads; decide

theorem test_decode_clocking :
    reads 0x00000000 .clk ∧ reads 0x30000BB8 (.clkn 3000) ∧ reads 0x40000000 .rst ∧
    reads 0x50008000 (.extin (BitVec.ofInt 16 (-32768))) ∧ reads 0x60000000 .out ∧ reads 0x7FFFC350 (.render 50000 4095) := by
  unfold reads; decide

theorem test_decode_configuration :
    reads 0x80002184 (.model 8580) ∧ reads 0x80001234 (.model 4660) ∧ reads 0x90000001 (.muteV0 true) ∧
    reads 0x90000100 (.muteV1 false) ∧ reads 0x90000201 (.muteV2 true) ∧ reads 0xA0000001 (.exten true) ∧
    reads 0xB0000000 (.sampling SamplingArgs.blank) ∧ reads 0xC0000000 (.calib []) := by unfold reads; decide

theorem test_decode_refuses_by_name :
    decode (Command.plain 0x00000001) = .error .nonzeroField ∧ decode (Command.plain 0xA0000002) = .error .nonzeroField ∧
    decode (Command.plain 0x90000301) = .error .muteVoiceThree ∧ decode (Command.plain 0xE0000000) = .error .reservedClass ∧
    decode (Command.plain 0xF0000000) = .error .reservedClass := by decide

theorem test_table_rows_are_pairwise_disjoint : opcodeRows.Pairwise (fun r q => r.disjoint q = true) := by decide +kernel

theorem test_table_word_of_render : decodeTableWord 32 0x7FFFC350 = some (.render 50000 4095) := by decide

/-! ## Register writes: the examples of R140 to R144, R191, R192, R240 to R243, and V1 -/

theorem test_freq_lo : (withOsc .v0 (fun o => { o with freq := 0x1234 }) |> after (.wrFreqLo0 0xFF)).osc.v0.freq = 0x12FF ∧
    (after (.wrFreqLo1 0x20) State.reset).osc.v1.freq = 0x0020 ∧ (after (.wrFreqLo2 0xFF) State.reset).osc.v2.freq = 0x00FF := by
  decide +kernel
theorem test_freq_hi : (withOsc .v0 (fun o => { o with freq := 0x12FF }) |> after (.wrFreqHi0 0x10)).osc.v0.freq = 0x10FF ∧
    (after (.wrFreqHi1 0x20) State.reset).osc.v1.freq = 0x2000 ∧ (after (.wrFreqHi2 0x30) State.reset).osc.v2.freq = 0x3000 := by
  decide +kernel
theorem test_pw_lo :
    (withOsc .v0 (fun o => { o with pulseWidth := 0x800 }) |> after (.wrPwLo0 0x34)).osc.v0.pulseWidth = 0x834 ∧
    (after (.wrPwLo1 0x55) State.reset).osc.v1.pulseWidth = 0x055 ∧
    (after (.wrPwLo2 0x01) State.reset).osc.v2.pulseWidth = 0x001 := by decide +kernel
theorem test_pw_hi :
    (withOsc .v0 (fun o => { o with pulseWidth := 0x034 }) |> after (.wrPwHi0 0xF8)).osc.v0.pulseWidth = 0x834 ∧
    (after (.wrPwHi1 0xF8) State.reset).osc.v1.pulseWidth = 0x800 ∧
    (after (.wrPwHi2 0xF8) State.reset).chip.busValue = 0xF8 := by decide +kernel
theorem test_control_gate_and_pulse :
    let s := after (.wrControl0 0x41) State.reset
    s.osc.v0.waveformSelect = 4 ∧ s.osc.v0.test = false ∧ s.env.v0.state = .attack ∧ s.env.v0.ratePeriod = 9 ∧
    s.env.v0.holdZero = false ∧ s.env.v0.gate = true := by decide +kernel
theorem test_control_test_rise :
    let s := withOsc .v2 (fun o => { o with accumulator := 0x123456 }) |> after (.wrControl2 0x8E)
    s.osc.v2.accumulator = 0 ∧ s.osc.v2.shiftRegister = 0 ∧ s.osc.v2.waveformSelect = 8 ∧ s.osc.v2.ringMod = true ∧
    s.osc.v2.syncEnable = true ∧ s.osc.v2.test = true ∧ s.env.v2.gate = false := by decide +kernel
theorem test_control_test_fall :
    (withOsc .v1 (fun o => { o with test := true, shiftRegister := 0 }) |> after (.wrControl1 0x00)).osc.v1.shiftRegister =
      0x7FFFF8 := by decide +kernel
theorem test_attack_decay :
    (after (.wrAttackDecay0 0xA7) State.reset).env.v0.attack = 0xA ∧ (after (.wrAttackDecay0 0xA7) State.reset).env.v0.decay = 7 ∧
    (withEnv .v1 (fun e => { e with state := .attack }) |> after (.wrAttackDecay1 0x2A)).env.v1.ratePeriod = 63 ∧
    (after (.wrAttackDecay2 0xF0) State.reset).env.v2.ratePeriod = 9 := by decide +kernel
theorem test_sustain_release :
    (after (.wrSustainRelease0 0xF9) State.reset).env.v0.ratePeriod = 977 ∧
    (withEnv .v1 (fun e => { e with state := .attack }) |> after (.wrSustainRelease1 0xF9)).env.v1.ratePeriod = 9 ∧
    (after (.wrSustainRelease2 0xC3) State.reset).env.v2.sustain = 0xC := by decide +kernel
theorem test_filter_registers :
    (withFilt (fun f => { f with cutoff := 0x400 }) |> after (.wrFcLo 0xFF)).filt.cutoff = 0x407 ∧
    (withFilt (fun f => { f with cutoff := 0x007 }) |> after (.wrFcHi 0x80)).filt.cutoff = 0x407 ∧
    (after (.wrResFilt 0xF1) State.reset).filt.resonance = 15 ∧ (after (.wrResFilt 0xF1) State.reset).filt.routing = 1 ∧
    (after (.wrModeVol 0x9F) State.reset).filt.voice3Disconnect = true ∧
    (after (.wrModeVol 0x9F) State.reset).filt.outputSelect = 1 ∧ (after (.wrModeVol 0x9F) State.reset).filt.volume = 15 := by
  decide +kernel
/-- V2: an unmapped write latches the bus value and re-arms the time-to-live. -/
theorem test_unmapped_write :
    (after (.wrUnmapped203F 0 0xAA) State.reset).chip.busValue = 0xAA ∧
    (after (.wrUnmapped1919 0xAA) State.reset).chip.busValueTtl = 0x2000 ∧
    (after (.wrUnmapped80FF 0x7F 0xAA) State.reset).osc = State.reset.osc := by decide +kernel

/-! ## Reads: R297's examples, V2, V14, V17 -/

theorem test_read_osc3_sawtooth :
    (withOsc .v2 (fun o => { o with waveformSelect := 2, accumulator := 0xABCDEF }) |> after .rdOsc3).result = .byte 0xAB := by
  decide +kernel
theorem test_read_osc3_noise :
    (withOsc .v2 (fun o => { o with waveformSelect := 8 }) |> after .rdOsc3).result = .byte 0xFE ∧
    (withOsc .v2 (fun o => { o with waveformSelect := 9 }) |> after .rdOsc3).result = .byte 0x00 := by decide +kernel
theorem test_read_env3_and_pots :
    (withEnv .v2 (fun e => { e with envelopeCounter := 0x64 }) |> after .rdEnv3).result = .byte 0x64 ∧
    (after .rdPotx State.reset).result = .byte 0xFF ∧ (after .rdPoty State.reset).result = .byte 0xFF := by decide +kernel
theorem test_read_bus_value :
    let s := after (.wrFreqLo0 0x55) State.reset
    (after (.rdBus000F 0) s).result = .byte 0x55 ∧ (after .rdBus1818 s).result = .byte 0x55 ∧
    (after .rdBus1D1D s).result = .byte 0x55 ∧ (after (.rdBus80FF 0x7F) s).result = .byte 0x55 := by decide +kernel

/-! ## One cycle: V10, V12 to V15, V20, V22, V35 to V37, V50, V55, V56, V61 -/

theorem test_clk_msb_rise :
    let s := withOsc .v0 (fun o => { o with freq := 0x1000, accumulator := 0x7FF000 }) |> after .clk
    s.osc.v0.accumulator = 0x800000 ∧ s.osc.v0.msbRising = true ∧ s.osc.v0.shiftRegister = 0x7FFFF8 := by decide +kernel
theorem test_clk_lfsr_shift :
    (withOsc .v0 (fun o => { o with freq := 0x1000, accumulator := 0x07F000 }) |> after .clk).osc.v0.shiftRegister = 0x7FFFF0 := by
  decide +kernel
/-- V15's chain: voice 0 syncs voice 1, so voice 1 does not sync voice 2. -/
theorem test_sync_chain :
    let oscs : PerVoice Osc :=
      { v0 := { Osc.afterRst standardCfg with accumulator := 0x800000, msbRising := true }
        v1 := { Osc.afterRst standardCfg with accumulator := 0x800000, msbRising := true, syncEnable := true }
        v2 := { Osc.afterRst standardCfg with accumulator := 0x123400, syncEnable := true } }
    (synchronizeAll oscs).v1.accumulator = 0 ∧ (synchronizeAll oscs).v2.accumulator = 0x123400 := by decide +kernel
theorem test_waveforms_of_abcdef :
    let oscs := everyVoice { Osc.afterRst standardCfg with accumulator := 0xABCDEF, pulseWidth := 0x800 }
    triangle oscs .v0 = 0xA86 ∧ sawtooth oscs.v0 = 0xABC ∧ pulse oscs.v0 = 0xFFF := by decide +kernel
theorem test_ring_modulated_triangle :
    let oscs : PerVoice Osc :=
      { v0 := Osc.afterRst standardCfg
        v1 := { Osc.afterRst standardCfg with accumulator := 0x8C8000 }
        v2 := { Osc.afterRst standardCfg with accumulator := 0x12C000, ringMod := true } }
    triangle oscs .v2 = 0xDA7 := by decide +kernel
theorem test_lfsr_and_noise :
    lfsrShift 0x7FFFF8 = 0x7FFFF0 ∧ lfsrShift 0x7C0000 = 0x780001 ∧ noise standardCfg 0x40000F = 0x810 ∧
    noise standardCfg 0x185FF9 = 0x4E0 := by decide +kernel
/-- R196: the last step of an attack. -/
theorem test_attack_end :
    let e := Env.one standardCfg { Env.afterRst standardCfg with
      state := .attack, holdZero := false, envelopeCounter := 0xFE, rateCounter := 8, decay := 3 }
    e.envelopeCounter = 0xFF ∧ e.state = .decaySustain ∧ e.ratePeriod = 95 ∧ e.exponentialCounterPeriod = 1 := by decide +kernel
/-- R198, R199: a release step onto a threshold. -/
theorem test_release_step :
    let e := Env.one standardCfg { Env.afterRst standardCfg with holdZero := false, envelopeCounter := 0x5E, rateCounter := 8 }
    e.envelopeCounter = 0x5D ∧ e.exponentialCounterPeriod = 2 ∧ e.rateCounter = 0 := by decide +kernel
/-- R197: a counter below the sustain level keeps falling, one at it stays. -/
theorem test_decay_step :
    let e := { Env.afterRst standardCfg with state := .decaySustain, holdZero := false, sustain := 8, rateCounter := 8 }
    (Env.one standardCfg { e with envelopeCounter := 0x80 }).envelopeCounter = 0x7F ∧
    (Env.one standardCfg { e with envelopeCounter := 0x88 }).envelopeCounter = 0x88 := by decide +kernel
/-- R194: the wrap of the rate counter under both values of `RATE_WRAP_TO`. -/
theorem test_rate_wrap :
    let e := { Env.afterRst standardCfg with rateCounter := 0x7FFF }
    (Env.one standardCfg e).rateCounter = 0 ∧ (Env.one { standardCfg with rateWrapTo := 1 } e).rateCounter = 1 := by decide +kernel
/-- V50, first cycle, both values of `FILTER_ORDER`. -/
theorem test_filter_step :
    let f := Filt.integrate .doc 42824 20 1448 1000 Filt.afterRst
    let g := Filt.integrate .reference 42824 20 1448 1000 { Filt.afterRst with highpassState := BitVec.ofInt 32 (-1000) }
    f.highpassState.toInt = -1000 ∧ f.bandpassState = 41 ∧ f.lowpassState.toInt = -1 ∧
    g.highpassState.toInt = -943 ∧ g.bandpassState = 41 ∧ g.lowpassState = 0 := by decide +kernel
/-- V55, second cycle: the output lags the states. -/
theorem test_output_stage_step :
    let x := Extf.one standardCfg 176790 { Extf.powerOn with lowpassState := 17653 }
    x.lowpassState = 33543 ∧ x.highpassState = 1 ∧ x.out = 17653 := by decide +kernel
/-- R300's example and V56: the first CLK after a volume write, with the stage enabled and disabled. -/
theorem test_clk_after_volume_write :
    let s := withFilt (fun f => { f with volume := 15 })
    (after .clk s).extf.lowpassState = 17653 ∧ (after .clk s).extf.out = 0 ∧
    (after .clk (after (.exten false) s)).extf.out.toInt = -103275 := by decide +kernel

/-! ## The other operations -/

/-- V57: the bulk steps of filter and output stage. -/
theorem test_clkn_8 :
    let s := withFilt (fun f => { f with volume := 15 }) |> after (.clkn 8)
    s.extf.lowpassState = 141397 ∧ s.extf.highpassState = 0 ∧ s.extf.out = 0 ∧ s.env.v0.rateCounter = 8 := by decide +kernel
/-- V3, V64: no underflow of the time-to-live, and CLKN 0 changes nothing. -/
theorem test_clkn_ttl :
    let s := after (.wrFreqLo0 0x55) State.reset
    (s.chip.ageBy 20000).busValueTtl = 0 ∧ (s.chip.ageBy 20000).busValue = 0 ∧ (s.chip.ageBy 8191).busValue = 0x55 ∧
    (after (.clkn 0) s).chip = s.chip := by decide +kernel
theorem test_rst_keeps_configuration :
    let s := after .rst (after (.extin 500) (after (.muteV1 true) reset8580))
    s.chip.chipModel = .m8580 ∧ s.muted.v1 = true ∧ s.chip.externalInput = 24000 ∧ s.osc.v0.shiftRegister = 0x7FFFF8 := by
  decide +kernel
/-- V60. -/
theorem test_extin :
    (after (.extin 1000) State.reset).chip.externalInput = 48000 ∧
    (after (.extin (BitVec.ofInt 16 (-32768))) State.reset).chip.externalInput.toInt = -1572864 := by decide +kernel
/-- V58. -/
theorem test_out :
    let raw := fun (x : Int) => rawOutput (State.reset.setExtf { State.reset.extf with out := BitVec.ofInt 32 x })
    raw 17653 = 1604 ∧ (raw (-103275)).toInt = -9388 ∧ raw 400000 = 32767 ∧ (raw (-360459)).toInt = -32768 ∧ raw (-5) = 0 ∧
    (raw (-12)).toInt = -1 := by decide +kernel
theorem test_out_answers : (after .out State.reset).result = .sample 0 := by decide +kernel
/-- V65. -/
theorem test_model :
    (after (.model 8580) State.reset).chip.chipModel = .m8580 ∧ (after (.model 8580) State.reset).result = .ok ∧
    (after (.model 6582) State.reset).result = .configError .chipModel ∧ configCodeNumber .chipModel = 5 := by decide +kernel
theorem test_mute :
    (after (.muteV0 true) State.reset).muted.v0 = true ∧ (after (.muteV1 true) State.reset).muted.v1 = true ∧
    voiceOutput (after (.muteV2 true) State.reset) .v2 = 0 ∧ voiceOutput State.reset .v2 = 522240 := by decide +kernel
theorem test_exten : (after (.exten false) State.reset).extf.enabled = false := by decide +kernel
/-- V47, its fifth row: voice 3 disconnected but routed through the filter. -/
theorem test_routing :
    let x : MixInputs := { in0 := 1024, in1 := BitVec.ofInt 32 (-512), in2 := 4078, in3 := 375 }
    routedSum 0b0100 x = 4078 ∧ unroutedSum 0b0100 x = 887 ∧ routedSum 0b0101 x = 5102 ∧ (unroutedSum 0b0101 x).toInt = -137 := by
  decide +kernel
/-- V48. -/
theorem test_filter_output :
    let f := { Filt.afterRst with
      unfilteredSum := 12240, lowpassState := 100, bandpassState := BitVec.ofInt 32 (-200), highpassState := 300, volume := 15 }
    f.output standardCfg .m6581 = 176790 ∧ ({ f with outputSelect := 4 } : Filt).output standardCfg .m6581 = 181290 ∧
    ({ f with outputSelect := 5, volume := 8 } : Filt).output standardCfg .m6581 = 97488 := by decide +kernel
/-- V46: entries of the default cutoff tables and their angular frequency. -/
theorem test_cutoff_table :
    cutoffF0 .m6581 powerOnCalib.m6581 1000 = 5187 ∧ cutoffF0 .m8580 powerOnCalib.m8580 1500 = 9629 ∧
    w0OfHz standardCfg 18000 = 118591 := by decide +kernel
/-- V54. -/
theorem test_calib :
    let point := fun (x y : Nat) => ({ controlValue := .finite x, frequencyHz := .finite y } : CalibPoint)
    let s := after (.calib [point 0 100, point 2047 10000]) State.reset
    s.result = .ok ∧ cutoffF0 .m6581 s.calib.m6581 1024 = 5052 ∧
    (after (.calib [point 0 100, point 10 100]) State.reset).result = .configError .calibration := by decide +kernel
/-- V80. -/
theorem test_sampling :
    let run := fun (strategy : Strategy) (fs : Rat) (pass : Passband) (scale : Rat) =>
      after (.sampling (SamplingArgs.mk (.finite 985248) strategy (.finite fs) pass scale)) State.reset
    (run .interpolate 48000 .auto (97 / 100)).rs.cyclesPerSample = 1345192 ∧
    (run .fast 7517 .auto (97 / 100)).result = .ok ∧ (run .fast 7516 .auto (97 / 100)).result = .configError .ringOverflow ∧
    (run .fast 60 .auto (97 / 100)).result = .configError .frequency ∧
    (run .resampleFast 44100 (.hz 19846) 1).result = .configError .passband ∧
    (run .resampleFast 44100 .auto (8 / 10)).result = .configError .filterScale := by decide +kernel
/-- V76. -/
theorem test_fir_design :
    let d := fun (strategy : Strategy) (fs pass : Rat) =>
      ({ chipClockHz := 985248, outputSampleHz := fs, passbandHz := pass, filterScale := 1, strategy := strategy, shift := 15 } :
        FirDesign)
    firOrder (d .resampleFast 44100 19845) = 124 ∧ firLength (d .resampleFast 44100 19845) = 2771 ∧
    firTables standardCfg (d .resampleInterpolate 44100 19845) = 16 ∧
    firTables standardCfg (d .resampleFast 44100 19845) = 4096 ∧ firLength (d .resampleFast 48000 20000) = 1519 := by decide +kernel
/-- V71: too few cycles for a sample. -/
theorem test_render_tail :
    let s := after (.render 10 10) State.reset
    s.result = .samples [] 0 ∧ s.rs.sampleOffset.toInt = -655360 := by decide +kernel
/-- V71: a phase left behind by a tail, and the next sample. -/
theorem test_render_one_sample :
    let s := after (.render 12 10) (State.reset.setRs { State.reset.rs with sampleOffset := BitVec.ofInt 32 (-655360) })
    s.result = .samples [0] 0 ∧ s.rs.sampleOffset.toInt = 22362 := by decide +kernel
/-- V75. -/
theorem test_interpolation : interpolateSample 0x575A 1000 1100 = 1034 ∧ interpolateSample 0x575A 1100 1000 = 1065 := by
  decide +kernel
theorem test_history_ring :
    historyWrite [(2, 5)] 1 7 = [(1, 7), (2, 5)] ∧ historyWrite [(1, 7), (2, 5)] 1 0 = [(2, 5)] ∧
    historyRead [(1, 7), (2, 5)] 2 = 5 ∧ historyRead [(1, 7)] 0 = 0 ∧ historyWf 2 [(1, 7), (2, 5)] = false := by decide +kernel
/-- R107, R108: an omitted scale is the default, and FREQ is the low byte, then the high byte. -/
theorem test_script_expansion :
    expandLine standardCfg (.freq .v1 0x2000) = [.wrFreqLo1 0x00, .wrFreqHi1 0x20] ∧
    expandLine standardCfg (.cutoff 0x400) = [.wrFcLo 0x00, .wrFcHi 0x80] ∧
    expandLine standardCfg (.pw .v0 0x800) = [.wrPwLo0 0x00, .wrPwHi0 0x08] := by decide +kernel
/-- V73's operation is no command word, so its script has operations and no command stream. -/
theorem test_script_too_large_for_a_word :
    scriptOperations standardCfg [.op (.render 100000 100000)] = [.render 100000 100000] ∧
    scriptCommands standardCfg [.op (.render 100000 100000)] = none ∧
    scriptCommands standardCfg [.op (.render 65535 4095)] = some [Command.plain 0x7FFFFFFF] := by decide +kernel
/-- The word placed by the host's interface runs first. -/
theorem test_fetch_word : (stateOf (step (State.reset.withFetchWord 32 0x1000020F))).osc.v0.pulseWidth = 0x00F := by decide +kernel

/-! ## Witnesses: for each statement with hypotheses, states and operands that meet them all together, at the bounds -/

/-- The power-on state with `cfg` replaced. -/
def withCfg (f : Cfg → Cfg) : State := { State.reset with cfg := f standardCfg }

/-- The power-on state with the resampler replaced. -/
def withRs (f : Resampler → Resampler) : State := { State.reset with rs := f Resampler.powerOn }

/-- The power-on state with one command pending. -/
def withCommand (w : Word) : State := { State.reset with pending := [Command.plain w] }

/-- SAMPLING 985248 to 44100 with an explicit passband. -/
def samplingOf (strategy : Strategy) (pass : Passband) (scale : Rat) : SamplingArgs :=
  SamplingArgs.mk (.finite 985248) strategy (.finite 44100) pass scale

/-- A calibration point on integers. -/
def pointAt (x y : Int) : CalibPoint := { controlValue := .finite x, frequencyHz := .finite y }

theorem witness_DecodeOfEncodeIsTheOperation :
    (Instr.clkn 65535).wf = true ∧ (Instr.render 65535 4095).wf = true ∧ (Instr.model 65535).wf = true ∧
    (Instr.calib [pointAt 0 100, pointAt 2047 200]).wf = true ∧ (Instr.sampling SamplingArgs.blank).wf = true ∧
    (Instr.wrUnmapped80FF 127 255).wf = true := by decide

theorem witness_EncodeOfDecodeIsTheWord :
    decode { word := 0xC0000000, points := [pointAt 0 100] } = .ok (.calib [pointAt 0 100]) ∧
    decode { word := 0xA0000001 } = .ok (.exten true) := by decide +kernel

theorem witness_ValidWordsAreExactlyTheTableRows :
    (opcodeRows.filter (fun r => r.covers 0x10002A55)).length = 1 ∧ opcodeRows.filter (fun r => r.covers 0x90000301) = [] ∧
    opcodeRows.filter (fun r => r.covers 0xD0000000) = [] := by decide +kernel

theorem witness_StepRunsTheDecodedOperation :
    (withCommand 0x10000441).pending = [Command.plain 0x10000441] ∧ (withCommand 0x10000441).cfg.patchedNoise = false ∧
    (withCommand 0x10000441).cfg.patchedFilter = false ∧ decode (Command.plain 0x10000441) = .ok (.wrControl0 0x41) := by
  decide +kernel

theorem witness_StepIdlesPlacesAndRefuses :
    State.reset.cfg.patchedNoise = false ∧ State.reset.cfg.patchedFilter = false ∧ State.reset.pending = [] ∧
    decode (Command.plain 0x20001B00) = .ok .rdOsc3 ∧ decode (Command.plain 0x10010000) = .error .nonzeroField ∧
    (withCfg (fun c => { c with patchedNoise := true })).cfg.patchedNoise = true ∧
    (withCfg (fun c => { c with patchedFilter := true })).cfg.patchedNoise = false ∧
    (withCfg (fun c => { c with patchedFilter := true })).cfg.patchedFilter = true := by decide +kernel

theorem witness_UnmappedWritesOnlyLatchTheBus : 0x19 ≤ (0x19 : Byte).toNat ∧ 0x19 ≤ (0xFF : Byte).toNat := by decide

theorem witness_ReadsReturnSnapshotsOrTheBusValue :
    ((0x18 : Byte).toNat < 0x19 ∨ 0x1C < (0x18 : Byte).toNat) ∧ ((0x1D : Byte).toNat < 0x19 ∨ 0x1C < (0x1D : Byte).toNat) ∧
    ((0x00 : Byte).toNat < 0x19 ∨ 0x1C < (0x00 : Byte).toNat) ∧ ((0xFF : Byte).toNat < 0x19 ∨ 0x1C < (0xFF : Byte).toNat) := by
  decide

theorem witness_BusValueDecaysInTheWindow :
    let c := latched 0x55 State.reset.chip
    (c.ageBy 0x1FFF).busValue = 0x55 ∧ (c.ageBy 0x1FFF).busValueTtl = 1 ∧ (c.ageBy 0x2000).busValue = 0 ∧
    (c.ageBy 0x2000).busValueTtl = 0 := by decide +kernel

theorem witness_OscillatorCycle :
    ({ Osc.afterRst standardCfg with test := true } : Osc).test = true ∧ (Osc.afterRst standardCfg).test = false := by
  decide +kernel

theorem witness_OscillatorManyCyclesClosedForm :
    ({ Osc.afterRst standardCfg with freq := 0xFFFF, accumulator := 0xFFFFFF } : Osc).test = false := by decide +kernel

theorem witness_HardSyncZeroesTheDestination :
    VoiceIdx.v0 ≠ .v1 ∧ VoiceIdx.v1 ≠ .v2 ∧ VoiceIdx.v0 ≠ .v2 := by decide

/-- One witness for each of the sixteen values of `waveformSelect`. -/
theorem witness_WaveformOutputSelection (w : BitVec 4) :
    (ofVoice (everyVoice { Osc.afterRst standardCfg with waveformSelect := w }) .v1).waveformSelect = w := rfl

theorem witness_EnvelopeCycleWithoutStep :
    let rc := fun (e : Env) => if e.rateCounter.toNat = 0x7FFF then standardCfg.rateWrapTo.val else e.rateCounter.toNat + 1
    let reached := fun (e : Env) =>
      decide (e.state = .attack) || decide ((e.exponentialCounter.toNat + 1) % 256 = e.exponentialCounterPeriod.toNat)
    let still := Env.afterRst standardCfg
    let wrapping : Env := { still with rateCounter := 0x7FFF }
    let waiting : Env := { still with rateCounter := 8, exponentialCounterPeriod := 2 }
    let held : Env := { still with rateCounter := 8 }
    rc still ≠ still.ratePeriod.toNat ∧ rc wrapping ≠ wrapping.ratePeriod.toNat ∧
    rc waiting = waiting.ratePeriod.toNat ∧ reached waiting = false ∧
    rc held = held.ratePeriod.toNat ∧ reached held = true ∧ held.holdZero = true := by decide +kernel

/-- The last step of an attack, and a release step at the longest exponential period. -/
theorem witness_EnvelopeCycleWithStep :
    let e : Env := { Env.afterRst standardCfg with
      state := .attack, rateCounter := 8, holdZero := false, envelopeCounter := 0xFE }
    let f : Env := { e with state := .release, exponentialCounter := 29, exponentialCounterPeriod := 30, envelopeCounter := 1 }
    (if e.rateCounter.toNat = 0x7FFF then standardCfg.rateWrapTo.val else e.rateCounter.toNat + 1) = e.ratePeriod.toNat ∧
    e.state = .attack ∧ e.holdZero = false ∧
    (if f.rateCounter.toNat = 0x7FFF then standardCfg.rateWrapTo.val else f.rateCounter.toNat + 1) = f.ratePeriod.toNat ∧
    (f.exponentialCounter.toNat + 1) % 256 = f.exponentialCounterPeriod.toNat ∧ f.holdZero = false := by decide +kernel

theorem witness_EnvelopeCounterNeverJumps :
    State.reset.inv = true ∧ (∃ t, exec .clk State.reset = .next t) ∧ (∃ t, exec (.clkn 0) State.reset = .next t) ∧
    (∃ t, exec (.render 0 0) State.reset = .next t) ∧ (∃ t, exec .rst State.reset = .next t) ∧
    (∃ t, exec (.wrControl0 0xFF) State.reset = .next t) :=
  ⟨by decide +kernel, ⟨_, rfl⟩, ⟨_, rfl⟩, ⟨_, rfl⟩, ⟨_, rfl⟩, ⟨_, rfl⟩⟩

theorem witness_FullAttackTakes255Periods :
    let e : Env := { Env.afterRst standardCfg with state := .attack, holdZero := false, decay := 3 }
    e.state = .attack ∧ e.holdZero = false ∧ e.envelopeCounter = 0 ∧ e.rateCounter = 0 ∧ 0 < e.ratePeriod.toNat ∧
    2295 ≤ 255 * e.ratePeriod.toNat := by decide +kernel

/-- The counter at the period, and at its last value before the wrap. -/
theorem witness_AdsrDelayBug :
    let e : Env := { Env.afterRst standardCfg with rateCounter := 9 }
    let f : Env := { Env.afterRst standardCfg with rateCounter := 0x7FFF }
    0 < e.ratePeriod.toNat ∧ e.ratePeriod.toNat ≤ e.rateCounter.toNat ∧ 0 < f.ratePeriod.toNat ∧
    f.ratePeriod.toNat ≤ f.rateCounter.toNat := by decide +kernel

theorem witness_ClkStepsTheAnalogPart :
    let other := withCfg (fun c => { c with filterOrder := .reference })
    let disabled := State.reset.setExtf { State.reset.extf with enabled := false }
    (∃ t, exec .clk State.reset = .next t) ∧ State.reset.cfg.filterOrder = .doc ∧ State.reset.extf.enabled = true ∧
    (∃ t, exec .clk other = .next t) ∧ other.cfg.filterOrder = .reference ∧
    (∃ t, exec .clk disabled = .next t) ∧ disabled.extf.enabled = false :=
  ⟨⟨_, rfl⟩, rfl, rfl, ⟨_, rfl⟩, rfl, ⟨_, rfl⟩, rfl⟩

theorem witness_ClknClocksDeltaCyclesAtOnce : 0 < 1 ∧ 0 < 65535 := by decide

theorem witness_BulkSubStepsPartitionTheCycles :
    State.reset.cfg.wf = true ∧ State.reset.extf.enabled = true ∧
    (after (.exten false) State.reset).cfg.wf = true ∧ (after (.exten false) State.reset).extf.enabled = false := by
  decide +kernel

/-- An enabled and a disabled output stage. -/
theorem witness_IdleChipOnlyCountsRates :
    reset8580.cfg.wf = true ∧ (∃ s0, exec .rst reset8580 = .next s0) ∧ reset8580.extf.enabled = true ∧
    (after (.exten false) State.reset).cfg.wf = true ∧ (∃ s0, exec .rst (after (.exten false) State.reset) = .next s0) ∧
    (after (.exten false) State.reset).extf.enabled = false :=
  ⟨by decide +kernel, ⟨_, rfl⟩, rfl, by decide +kernel, ⟨_, rfl⟩, rfl⟩

/-- The bus value just latched, and one cycle before it decays. -/
theorem witness_ClknIsClkTimesInTheDigitalPart :
    chipInv State.reset.chip = true ∧ chipInv (latched 0x55 State.reset.chip) = true ∧
    chipInv { State.reset.chip with busValue := 0x55, busValueTtl := 1 } = true := by decide +kernel

theorem witness_VoiceOutputDoesNotWrap :
    ofVoice (after (.muteV1 true) State.reset).muted .v1 = true ∧ ofVoice State.reset.muted .v1 = false ∧
    State.reset.cfg.waveZero = standardCfg.waveZero ∧ State.reset.cfg.voiceDC = standardCfg.voiceDC ∧
    State.reset.chip.chipModel = .m6581 ∧ ofVoice reset8580.muted .v1 = false ∧
    reset8580.cfg.waveZero = standardCfg.waveZero ∧ reset8580.cfg.voiceDC = standardCfg.voiceDC ∧
    reset8580.chip.chipModel = .m8580 := by decide +kernel

theorem witness_FilterOutputMixesTheSelection : Filt.afterRst.outputSelect = 0 ∧ Filt.afterRst.volume = 0 := by decide

/-- By default no sample has another value, and a record that gives the lowest sample one. -/
theorem witness_ExtinScalesTheSample :
    State.reset.cfg.extinScale = [] ∧
    (withCfg (fun c => { c with extinScale := [(BitVec.ofInt 16 (-32768), 7)] })).cfg.wf = true ∧
    (BitVec.ofInt 16 (-32768), 7) ∈
      (withCfg (fun c => { c with extinScale := [(BitVec.ofInt 16 (-32768), 7)] })).cfg.extinScale := by decide +kernel

/-- The end points of a piece and the point between the two pieces of the default 6581 calibration. -/
theorem witness_CutoffTablePassesThroughThePoints :
    pieceInv piece6581High = true ∧ (⟨2047, 18000⟩ : Knot) ∈ piece6581High ∧ (⟨1024, 4600⟩ : Knot) ∈ piece6581High ∧
    (0 < 2047 ∧ 100 ≤ 100 ∧ 0 ≤ 0 ∧ 2047 ≤ 2047) ∧
    0 + 1 < piece6581Low.length ∧ (pointOf piece6581Low 0).x ≤ 0 ∧ 0 ≤ (pointOf piece6581Low 1).x ∧
    (∀ q ∈ powerOnCalib.m6581.pieces, pieceInv q = true) ∧ 0 ≤ standardCfg.w0Scale := by decide +kernel

theorem witness_CutoffTablePassesThroughThePoints_pieces :
    powerOnCalib.m6581.pieces.Pairwise (fun a b => ∀ x, ¬(liesIn x a ∧ liesIn x b)) ∧
    piece6581Low ∈ powerOnCalib.m6581.pieces ∧ liesIn 1023 piece6581Low ∧ piece6581High ∈ powerOnCalib.m6581.pieces ∧
    liesIn 1024 piece6581High := by
  refine ⟨?_, by decide, by unfold liesIn; decide, by decide, by unfold liesIn; decide⟩
  refine List.Pairwise.cons ?_ (List.pairwise_singleton ..)
  intro q hq x ⟨h1, h2⟩
  cases List.mem_singleton.mp hq
  have low : x ≤ 1023 := h1.2
  have high : 1024 ≤ x := h2.1
  omega

/-- The bounds of the passband and of the scale, with an explicit and with an `auto` passband (the hypothesis on the checks), and a strategy to
which they do not apply. -/
theorem witness_SamplingInstallsTheRatio :
    let c : Int := ((985248 : Rat) / 44100 * 65536 + 1 / 2).floor
    (samplingOf .resampleFast (.hz 19845) 1).chipClockHz = .finite 985248 ∧
    (samplingOf .resampleFast (.hz 19845) 1).outputSampleHz = .finite 44100 ∧ (0 : Rat) < 985248 ∧ (0 : Rat) < 44100 ∧
    1 ≤ c ∧ c ≤ 2 ^ 30 ∧ (standardCfg.firN : Rat) * 985248 / 44100 < standardCfg.ringSize ∧
    (19845 : Rat) ≤ 9 / 10 * 44100 / 2 ∧ (samplingOf .fast .auto (9 / 10)).passbandHz = .auto ∧
    (9 / 10 : Rat) ≤ (samplingOf .fast .auto (9 / 10)).filterScale ∧ (samplingOf .resampleFast (.hz 19845) 1).filterScale ≤ 1 ∧
    ¬((withCfg (fun c => { c with samplingChecksAll := false })).cfg.samplingChecksAll = true ∨
      (samplingOf .interpolate (.hz 19846) 2).strategy = .resampleInterpolate ∨
      (samplingOf .interpolate (.hz 19846) 2).strategy = .resampleFast) := by
  decide +kernel

/-- One witness for each check that fails while those before it pass. -/
theorem witness_SamplingReportsTheFirstFailure :
    let c : Int := ((985248 : Rat) / 44100 * 65536 + 1 / 2).floor
    let slow : Int := ((985248 : Rat) / 60 * 65536 + 1 / 2).floor
    let low : Int := ((985248 : Rat) / 7516 * 65536 + 1 / 2).floor
    (SamplingArgs.mk .nonFinite .fast (.finite 1) .auto 1).chipClockHz = .nonFinite ∧
    (0 : Rat) ≤ 0 ∧ (0 : Rat) < 985248 ∧ ¬(1 ≤ slow ∧ slow ≤ 2 ^ 30) ∧
    (1 ≤ low ∧ low ≤ 2 ^ 30) ∧ ¬((standardCfg.firN : Rat) * 985248 / 7516 < standardCfg.ringSize) ∧
    (1 ≤ c ∧ c ≤ 2 ^ 30) ∧ standardCfg.samplingChecksAll = true ∧
    (standardCfg.firN : Rat) * 985248 / 44100 < standardCfg.ringSize ∧ ¬((19846 : Rat) ≤ 9 / 10 * 44100 / 2) ∧
    ((8 / 10 : Rat) < 9 / 10 ∧ (1 : Rat) < 11 / 10) ∧
    (withCfg (fun c => { c with samplingChecksAll := false })).cfg.samplingChecksAll = false ∧
    (samplingOf .resampleFast .auto 0).strategy = .resampleFast := by decide +kernel

theorem witness_FirTablesHaveTheirShape :
    let d : FirDesign := FirDesign.mk 985248 44100 19845 1 .resampleFast 15
    0 < d.chipClockHz ∧ 0 < d.outputSampleHz ∧ d.passbandHz ≤ 9 / 10 * d.outputSampleHz / 2 := by decide +kernel

theorem witness_CalibAcceptsIncreasingPoints :
    [pointAt 0 100, pointAt 2047 101] =
      ([⟨0, 100⟩, ⟨2047, 101⟩] : List Knot).map (fun k => { controlValue := .finite k.x, frequencyHz := .finite k.y }) ∧
    ([⟨0, 100⟩, ⟨2047, 101⟩] : List Knot).Pairwise (fun a b => a.x < b.x ∧ a.y < b.y) ∧
    (∀ k ∈ ([⟨0, 100⟩, ⟨2047, 101⟩] : List Knot), k.x ≤ 2047) := by decide +kernel

/-- One point is no calibration: no list of two or more maps to it. -/
theorem witness_CalibAcceptsIncreasingPoints_refusal :
    ¬∃ p : List Knot, [pointAt 0 100] = p.map (fun k => { controlValue := .finite k.x, frequencyHz := .finite k.y }) ∧
      2 ≤ p.length := by
  rintro ⟨p, h, hp⟩
  have := congrArg List.length h
  simp at this
  omega

/-- All six codes are answered. -/
theorem witness_ConfigErrorChangesNothing :
    let fails := fun (i : Instr) (c : ConfigCode) => (after i State.reset).result = .configError c
    fails (.model 0) .chipModel ∧ fails (.calib []) .calibration ∧ fails (.sampling SamplingArgs.blank) .frequency ∧
    fails (.sampling (SamplingArgs.mk (.finite 985248) .fast (.finite 7516) .auto 1)) .ringOverflow ∧
    fails (.sampling (samplingOf .fast (.hz 19846) 1)) .passband ∧ fails (.sampling (samplingOf .fast .auto 0)) .filterScale := by
  decide +kernel

theorem witness_RunTimeStateAndConfigurationArePartitioned :
    (∃ t, exec (.model 8580) State.reset = .next t) ∧ (∃ t, exec (.sampling SamplingArgs.blank) State.reset = .next t) ∧
    (∃ t, exec (.calib []) State.reset = .next t) ∧ (∃ t, exec (.muteV0 true) State.reset = .next t) ∧
    (∃ t, exec (.muteV1 true) State.reset = .next t) ∧ (∃ t, exec (.muteV2 true) State.reset = .next t) ∧
    (∃ t, exec (.exten false) State.reset = .next t) ∧ (∃ t, exec (.extin 1) State.reset = .next t) :=
  ⟨⟨_, rfl⟩, ⟨_, rfl⟩, ⟨_, rfl⟩, ⟨_, rfl⟩, ⟨_, rfl⟩, ⟨_, rfl⟩, ⟨_, rfl⟩, ⟨_, rfl⟩⟩

/-- At power-on the next sample is due after 22 cycles: 21 leave a tail, 22 give a sample. -/
theorem witness_RenderFastIteration :
    let nso := (State.reset.rs.sampleOffset + State.reset.rs.cyclesPerSample + wrap32 0x8000).toInt
    State.reset.rs.strategy = .fast ∧ (21 : Int) < nso / 65536 ∧ nso / 65536 ≤ (22 : Int) ∧ 0 ≤ nso / 65536 ∧
    State.reset.cfg.renderKeepsRemainder = false ∧
    (withCfg (fun c => { c with renderKeepsRemainder := true })).cfg.renderKeepsRemainder = true := by decide +kernel

theorem witness_RenderInterpolateIteration :
    let s := withRs (fun rs => { rs with strategy := .interpolate })
    let nso := (s.rs.sampleOffset + s.rs.cyclesPerSample).toInt
    let keeps := { s with cfg := { standardCfg with renderKeepsRemainder := true } }
    s.rs.strategy = .interpolate ∧ (21 : Int) < nso / 65536 ∧ nso / 65536 ≤ (22 : Int) ∧ 0 ≤ nso / 65536 ∧
    s.cfg.renderKeepsRemainder = false ∧
    keeps.rs = s.rs ∧ keeps.cfg.renderKeepsRemainder = true := by decide +kernel

theorem witness_RenderResampleIteration :
    let s := withRs (fun rs => { rs with strategy := .resampleInterpolate, firN := 2771, firRes := 16 })
    let u := withRs (fun rs => { rs with strategy := .resampleFast, firN := 2771, firRes := 4096 })
    let keeps := { s with cfg := { standardCfg with renderKeepsRemainder := true } }
    let keepsFast := { u with cfg := { standardCfg with renderKeepsRemainder := true } }
    let nso := (s.rs.sampleOffset + s.rs.cyclesPerSample).toInt
    s.rs.strategy = .resampleInterpolate ∧ u.rs.strategy = .resampleFast ∧ (21 : Int) < nso / 65536 ∧
    nso / 65536 ≤ (22 : Int) ∧ 0 ≤ nso / 65536 ∧ s.cfg.renderKeepsRemainder = false ∧
    keeps.rs = s.rs ∧ keepsFast.rs = u.rs ∧ keeps.cfg.renderKeepsRemainder = true ∧
    keepsFast.cfg.renderKeepsRemainder = true := by decide +kernel

/-- The shortest and the longest window, at the last place of the ring. -/
theorem witness_PushMovesTheWindow :
    let s := withRs (fun rs => { rs with firN := 1, sampleIndex := 16383, sampleHistory := [(0, 1), (16383, 2)] })
    let u := withRs (fun rs => { rs with firN := 16383 })
    historyWf s.cfg.ringSize s.rs.sampleHistory = true ∧ s.rs.sampleIndex < s.cfg.ringSize ∧ 0 < s.rs.firN ∧
    s.rs.firN < s.cfg.ringSize ∧ historyWf u.cfg.ringSize u.rs.sampleHistory = true ∧ u.rs.sampleIndex < u.cfg.ringSize ∧
    0 < u.rs.firN ∧ u.rs.firN < u.cfg.ringSize := by decide +kernel

theorem witness_RenderAccountsForEveryCycle : State.reset.inv = true := by decide +kernel

theorem witness_RenderSampleCount : State.reset.inv = true ∧ 65536 * (0 + 1) ≤ 65536 := by decide +kernel

theorem witness_DigitalPartIgnoresTheRest :
    sameDigital State.reset reset8580 ∧ (∃ s, exec .clk State.reset = .next s) ∧ (∃ t, exec .clk reset8580 = .next t) ∧
    (∀ d m, Instr.clk ≠ .render d m) :=
  ⟨⟨rfl, rfl⟩, ⟨_, rfl⟩, ⟨_, rfl⟩, by intro d m h; cases h⟩

theorem witness_RenderTimingIgnoresTheModel :
    sameDigital State.reset reset8580 ∧ State.reset.rs.strategy = reset8580.rs.strategy ∧
    State.reset.rs.cyclesPerSample = reset8580.rs.cyclesPerSample ∧ State.reset.rs.sampleOffset = reset8580.rs.sampleOffset :=
  ⟨⟨rfl, rfl⟩, rfl, rfl, rfl⟩

theorem witness_StepKeepsTheInvariant :
    (withCommand 0x10000441).inv = true ∧ (∃ t, step (withCommand 0x10000441) = .next t) ∧ (∃ t, step State.reset = .next t) :=
  ⟨by decide +kernel, ⟨_, rfl⟩, ⟨_, rfl⟩⟩

theorem witness_LfsrIsZeroOnlyUnderTest :
    (0x400000 : BitVec 23) ≠ 0 ∧ (withCommand 0x10000408).cfg.lfsrReset ≠ 0 ∧ (withCommand 0x10000408).cfg.lfsrReseed ≠ 0 ∧
    (∀ v, (ofVoice (withCommand 0x10000408).osc v).test = true ∨ (ofVoice (withCommand 0x10000408).osc v).shiftRegister ≠ 0) ∧
    (∃ t, step (withCommand 0x10000408) = .next t) :=
  ⟨by decide, by decide +kernel, by decide +kernel, by intro v; cases v <;> decide +kernel, ⟨_, rfl⟩⟩

end Sys2Proof.Tests
end

section
/-! PROOFS. The envelope counters (10_state.md R51): what one cycle does to a counter, how many cycles each clocking operation applies, and
that nothing else but RST writes a counter. -/

namespace Sys2Proof.Machine

/-! ## One cycle of an envelope (42_envelope.md R193 to R199) -/

@[simp] theorem Env.rateTick_envelopeCounter (cfg : Cfg) (e : Env) :
    (e.rateTick cfg).1.envelopeCounter = e.envelopeCounter := by
  unfold Env.rateTick
  split <;> rfl

@[simp] theorem Env.expTick_envelopeCounter (e : Env) : e.expTick.1.envelopeCounter = e.envelopeCounter := by
  unfold Env.expTick
  split
  · rfl
  · split <;> rfl

@[simp] theorem Env.rederive_envelopeCounter (e : Env) : e.rederive.envelopeCounter = e.envelopeCounter := rfl

@[simp] theorem Env.attackStep_envelopeCounter (cfg : Cfg) (e : Env) :
    (e.attackStep cfg).envelopeCounter = e.envelopeCounter + 1 := by
  unfold Env.attackStep
  split <;> rfl

theorem Env.decayStep_envelopeCounter (e : Env) :
    e.decayStep.envelopeCounter = e.envelopeCounter ∨ e.decayStep.envelopeCounter = e.envelopeCounter - 1 := by
  unfold Env.decayStep
  split
  · exact .inl rfl
  · exact .inr rfl

@[simp] theorem Env.releaseStep_envelopeCounter (e : Env) : e.releaseStep.envelopeCounter = e.envelopeCounter - 1 := rfl

/-- The step cases of R196 to R198: the only ones that write the counter. -/
theorem Env.amplitudeStep_envelopeCounter (cfg : Cfg) (e : Env) :
    (e.amplitudeStep cfg).envelopeCounter = e.envelopeCounter ∨
    (e.amplitudeStep cfg).envelopeCounter = e.envelopeCounter + 1 ∨
    (e.amplitudeStep cfg).envelopeCounter = e.envelopeCounter - 1 := by
  unfold Env.amplitudeStep
  split
  · exact .inr (.inl (e.attackStep_envelopeCounter cfg))
  · exact e.decayStep_envelopeCounter.imp_right .inr
  · exact .inr (.inr e.releaseStep_envelopeCounter)

/-- A cycle either leaves the counter alone or takes one amplitude step from an envelope with the same counter. -/
theorem Env.one_envelopeCounter (cfg : Cfg) (e : Env) :
    (e.one cfg).envelopeCounter = e.envelopeCounter ∨
    (e.one cfg).envelopeCounter = e.envelopeCounter + 1 ∨
    (e.one cfg).envelopeCounter = e.envelopeCounter - 1 := by
  simp only [Env.one]
  split
  · split
    · simpa using (e.rateTick cfg).1.expTick.1.amplitudeStep_envelopeCounter cfg
    · exact .inl (by simp)
  · exact .inl (by simp)

/-! ## Register writes -/

@[simp] theorem Env.writeControl_envelopeCounter (cfg : Cfg) (b : Byte) (e : Env) :
    (e.writeControl cfg b).envelopeCounter = e.envelopeCounter := by
  simp only [Env.writeControl]
  split
  · rfl
  · split <;> rfl

@[simp] theorem Env.writeAttackDecay_envelopeCounter (cfg : Cfg) (b : Byte) (e : Env) :
    (e.writeAttackDecay cfg b).envelopeCounter = e.envelopeCounter := rfl

@[simp] theorem Env.writeSustainRelease_envelopeCounter (cfg : Cfg) (b : Byte) (e : Env) :
    (e.writeSustainRelease cfg b).envelopeCounter = e.envelopeCounter := rfl

/-- An update of one envelope that keeps its counter keeps every voice's counter. -/
theorem modifyEnv_envelopeCounter {f : Env → Env} (hf : ∀ e, (f e).envelopeCounter = e.envelopeCounter) (w : VoiceIdx)
    (s : State) (v : VoiceIdx) :
    (ofVoice (modifyEnv w f s).env v).envelopeCounter = (ofVoice s.env v).envelopeCounter := by
  by_cases hv : v = w
  · subst hv
    simp [modifyEnv, hf]
  · simp [modifyEnv, ofVoice_setVoice_of_ne _ hv]

theorem busControl_envelopeCounter (w : VoiceIdx) (b : Byte) (s : State) (v : VoiceIdx) :
    (ofVoice (busControl w b s).env v).envelopeCounter = (ofVoice s.env v).envelopeCounter :=
  modifyEnv_envelopeCounter (Env.writeControl_envelopeCounter s.cfg b) w _ v

theorem busAttackDecay_envelopeCounter (w : VoiceIdx) (b : Byte) (s : State) (v : VoiceIdx) :
    (ofVoice (busAttackDecay w b s).env v).envelopeCounter = (ofVoice s.env v).envelopeCounter :=
  modifyEnv_envelopeCounter (Env.writeAttackDecay_envelopeCounter s.cfg b) w _ v

theorem busSustainRelease_envelopeCounter (w : VoiceIdx) (b : Byte) (s : State) (v : VoiceIdx) :
    (ofVoice (busSustainRelease w b s).env v).envelopeCounter = (ofVoice s.env v).envelopeCounter :=
  modifyEnv_envelopeCounter (Env.writeSustainRelease_envelopeCounter s.cfg b) w _ v

/-! ## MODEL, SAMPLING and CALIB, which may fail -/

theorem execModel_env {number : Int} {s t : State} (h : execModel number s = .next t) : t.env = s.env := by
  unfold execModel at h
  split at h
  · rw [answer_eq_next.mp h]; rfl
  · rw [raiseConfigError_eq_next.mp h]; rfl

theorem execSampling_env {args : SamplingArgs} {s t : State} (h : execSampling args s = .next t) : t.env = s.env := by
  unfold execSampling at h
  split at h
  · rw [answer_eq_next.mp h]; rfl
  · rw [raiseConfigError_eq_next.mp h]; rfl

theorem execCalib_env {points : List CalibPoint} {s t : State} (h : execCalib points s = .next t) : t.env = s.env := by
  unfold execCalib at h
  split at h
  · rw [answer_eq_next.mp h]; rfl
  · rw [raiseConfigError_eq_next.mp h]; rfl

/-! ## Cycles of the envelopes -/

/-- A voice of the envelopes after n cycles is that voice's envelope after n cycles. -/
theorem ofVoice_clockEnvelopes_iterate (cfg : Cfg) (n : Nat) (envs : PerVoice Env) (v : VoiceIdx) :
    ofVoice ((clockEnvelopes cfg)^[n] envs) v = (Env.one cfg)^[n] (ofVoice envs v) :=
  Function.Semiconj.iterate_right (f := fun envs => ofVoice envs v) (fun envs => ofVoice_mapVoices (Env.one cfg) envs v) n envs

/-- The envelopes of t are those of s after n cycles, and what decides about later cycles stands: the parameters, and the resampler's
strategy and ratio. The phase may have moved. -/
structure ClockedBy (n : Nat) (s t : State) : Prop where
  cfg : t.cfg = s.cfg
  env : t.env = (clockEnvelopes s.cfg)^[n] s.env
  strategy : t.rs.strategy = s.rs.strategy
  ratio : t.rs.cyclesPerSample = s.rs.cyclesPerSample

theorem ClockedBy.refl (s : State) : ClockedBy 0 s s := ⟨rfl, rfl, rfl, rfl⟩

theorem ClockedBy.trans {m n : Nat} {s t u : State} (h : ClockedBy m s t) (k : ClockedBy n t u) : ClockedBy (m + n) s u where
  cfg := k.cfg.trans h.cfg
  env := by rw [k.env, h.cfg, h.env, Nat.add_comm, Function.iterate_add_apply]
  strategy := k.strategy.trans h.strategy
  ratio := k.ratio.trans h.ratio

/-- What clocks one cycle clocks n cycles when iterated n times. -/
theorem ClockedBy.iterate {f : State → State} (hf : ∀ s, ClockedBy 1 s (f s)) (n : Nat) (s : State) :
    ClockedBy n s (f^[n] s) := by
  induction n with
  | zero => exact .refl s
  | succ n ih =>
    rw [Function.iterate_succ_apply']
    exact ih.trans (hf _)

/-- The envelope counter of a voice after n cycles. -/
theorem ClockedBy.envelopeCounter {n : Nat} {s t : State} (h : ClockedBy n s t) (v : VoiceIdx) :
    (ofVoice t.env v).envelopeCounter = ((Env.one s.cfg)^[n] (ofVoice s.env v)).envelopeCounter := by
  rw [h.env, ofVoice_clockEnvelopes_iterate]

theorem clockVoices_clockedBy (s : State) : ClockedBy 1 s (clockVoices s) := ⟨rfl, rfl, rfl, rfl⟩

theorem clockOne_clockedBy (s : State) : ClockedBy 1 s (clockOne s) := ⟨rfl, rfl, rfl, rfl⟩

theorem pushSample_clockedBy (s : State) : ClockedBy 1 s (pushSample s) := ⟨rfl, rfl, rfl, rfl⟩

/-- R303: the envelopes are clocked delta times, whatever the bulk steps of the analog part. -/
theorem clockN_clockedBy (delta : Nat) (s : State) : ClockedBy delta s (clockN delta s) := by
  unfold clockN
  split
  next h => subst h; exact .refl s
  next =>
    obtain ⟨hcfg, henv, hstrategy, hratio⟩ :=
      ClockedBy.iterate clockVoices_clockedBy delta (s.setChip (s.chip.ageBy delta))
    exact ⟨hcfg, henv, hstrategy, hratio⟩

/-- R351: keeping the raw output before the last cycle changes nothing about the cycles. -/
theorem clockKeepingPrev_clockedBy (n : Nat) (s : State) : ClockedBy n s (clockKeepingPrev n s) := by
  cases n with
  | zero => exact .refl s
  | succ k =>
    have before : ClockedBy k s (clockOne^[k] s) := .iterate clockOne_clockedBy k s
    exact before.trans ⟨rfl, rfl, rfl, rfl⟩

theorem advanceCycles_clockedBy (strategy : Strategy) (n : Nat) (s : State) :
    ClockedBy n s (advanceCycles strategy n s) := by
  cases strategy with
  | fast => exact clockN_clockedBy n s
  | interpolate => exact clockKeepingPrev_clockedBy n s
  | resampleInterpolate => exact .iterate pushSample_clockedBy n s
  | resampleFast => exact .iterate pushSample_clockedBy n s

/-! ## The phase of RENDER (47_resampler.md R345) -/

/-- The bias is 0 or half a cycle. -/
theorem toInt_phaseBias (strategy : Strategy) : 0 ≤ (phaseBias strategy).toInt ∧ (phaseBias strategy).toInt ≤ 32768 := by
  cases strategy <;> decide

theorem ratioInv_iff {rs : Resampler} :
    ratioInv rs = true ↔ 1 ≤ rs.cyclesPerSample.toInt ∧ rs.cyclesPerSample.toInt ≤ 2 ^ 30 := by
  simp [ratioInv]

theorem phaseInv_iff {rs : Resampler} :
    phaseInv rs = true ↔
      0 ≤ rs.sampleOffset.toInt + rs.cyclesPerSample.toInt + (phaseBias rs.strategy).toInt ∧
      rs.sampleOffset.toInt ≤ 65535 := by
  simp [phaseInv]

/-- Under the invariant `nso` does not wrap. -/
theorem toInt_nextPhase {rs : Resampler} (hr : ratioInv rs = true) (hp : phaseInv rs = true) :
    (nextPhase rs.strategy rs).toInt =
      rs.sampleOffset.toInt + rs.cyclesPerSample.toInt + (phaseBias rs.strategy).toInt := by
  have hbias := toInt_phaseBias rs.strategy
  rw [ratioInv_iff] at hr
  rw [phaseInv_iff] at hp
  simp only [nextPhase, BitVec.toInt_add]
  rw [Int.bmod_add_bmod]
  exact Int.bmod_eq_of_le (by omega) (by omega)

/-- R345: a sample is never due in the past. -/
theorem cyclesToSample_nonneg {rs : Resampler} (hr : ratioInv rs = true) (hp : phaseInv rs = true) :
    0 ≤ cyclesToSample rs.strategy rs := by
  rw [cyclesToSample, toInt_asr, toInt_nextPhase hr hp]
  exact Int.ediv_nonneg (phaseInv_iff.mp hp).1 (by decide)

/-- The phase an iteration leaves: the low 16 bits of `nso` less the bias. -/
theorem toInt_lowBits_sub_phaseBias (x : S32) (strategy : Strategy) :
    ((x &&& 0xFFFF) - phaseBias strategy).toInt = x.toNat % 65536 - (phaseBias strategy).toInt := by
  have hbias := toInt_phaseBias strategy
  have hlow : (x &&& 0xFFFF).toNat = x.toNat % 65536 := by
    rw [BitVec.toNat_and]
    exact Nat.and_two_pow_sub_one_eq_mod x.toNat 16
  have hint : (x &&& 0xFFFF).toInt = x.toNat % 65536 := by
    rw [BitVec.toInt_eq_toNat_of_lt (by omega), hlow]
    norm_cast
  rw [BitVec.toInt_sub, hint]
  exact Int.bmod_eq_of_le (by omega) (by omega)

/-- Any phase of that form is one between operations, whatever ratio in range goes with it. -/
theorem phaseInv_of_lowBits {rs : Resampler} (x : S32) (hr : ratioInv rs = true)
    (hso : rs.sampleOffset = (x &&& 0xFFFF) - phaseBias rs.strategy) : phaseInv rs = true := by
  have hbias := toInt_phaseBias rs.strategy
  rw [ratioInv_iff] at hr
  rw [phaseInv_iff, hso, toInt_lowBits_sub_phaseBias]
  omega

/-! ## RENDER -/

theorem clockToSample_clockedBy (strategy : Strategy) (s : State) :
    ClockedBy (cyclesToSample strategy s.rs).toNat s (clockToSample strategy s) := by
  obtain ⟨hcfg, henv, hstrategy, hratio⟩ := advanceCycles_clockedBy strategy (cyclesToSample strategy s.rs).toNat s
  exact ⟨hcfg, henv, hstrategy, hratio⟩

/-- Forming the sample clocks nothing. -/
theorem produceSample_clockedBy (strategy : Strategy) (s : State) : ClockedBy 0 s (produceSample strategy s).2 := by
  cases strategy <;> exact ⟨rfl, rfl, rfl, rfl⟩

@[simp] theorem produceSample_sampleOffset (strategy : Strategy) (s : State) :
    (produceSample strategy s).2.rs.sampleOffset = s.rs.sampleOffset := by
  cases strategy <;> rfl

/-- The tail clocks all the cycles left or none of them. -/
theorem renderTail_clockedBy (strategy : Strategy) (d : Nat) (s : State) :
    ∃ n, n ≤ d ∧ ClockedBy n s (renderTail strategy d s).state := by
  unfold renderTail
  split
  · exact ⟨0, Nat.zero_le d, .refl s⟩
  · obtain ⟨hcfg, henv, hstrategy, hratio⟩ := advanceCycles_clockedBy strategy d s
    exact ⟨d, le_rfl, hcfg, henv, hstrategy, hratio⟩

/-- The iteration of the loop: the cycles to the next sample, then the sample. -/
def renderSample (s : State) : State := (produceSample s.rs.strategy (clockToSample s.rs.strategy s)).2

theorem renderSample_clockedBy (s : State) :
    ClockedBy (cyclesToSample s.rs.strategy s.rs).toNat s (renderSample s) :=
  (clockToSample_clockedBy s.rs.strategy s).trans (produceSample_clockedBy s.rs.strategy _)

theorem renderSample_ratioInv {s : State} (hr : ratioInv s.rs = true) : ratioInv (renderSample s).rs = true := by
  rw [ratioInv_iff, (renderSample_clockedBy s).ratio]
  exact ratioInv_iff.mp hr

theorem renderSample_phaseInv {s : State} (hr : ratioInv s.rs = true) : phaseInv (renderSample s).rs = true := by
  refine phaseInv_of_lowBits (nextPhase s.rs.strategy s.rs) (renderSample_ratioInv hr) ?_
  rw [(renderSample_clockedBy s).strategy]
  exact produceSample_sampleOffset s.rs.strategy _

/-- R355: the loop clocks at most the cycles it is offered. It turns on R345: were a sample due in the past, the loop would be left with
more cycles than it had. -/
theorem renderLoop_clockedBy (room : Nat) : ∀ (d : Nat) (s : State), ratioInv s.rs = true → phaseInv s.rs = true →
    ∃ n, n ≤ d ∧ ClockedBy n s (renderLoop s.rs.strategy room d s).state := by
  induction room with
  | zero =>
    intro d s _ _
    unfold renderLoop
    split
    · exact renderTail_clockedBy s.rs.strategy d s
    · exact ⟨0, Nat.zero_le d, .refl s⟩
  | succ room ih =>
    intro d s hr hp
    unfold renderLoop
    split
    · exact renderTail_clockedBy s.rs.strategy d s
    next hdue =>
      have hnonneg := cyclesToSample_nonneg hr hp
      have hsample := renderSample_clockedBy s
      obtain ⟨n, hn, hrest⟩ := ih ((d : Int) - cyclesToSample s.rs.strategy s.rs).toNat (renderSample s)
        (renderSample_ratioInv hr) (renderSample_phaseInv hr)
      rw [hsample.strategy] at hrest
      exact ⟨_, by omega, hsample.trans hrest⟩

/-- The resampler's part of the machine's invariant. -/
theorem rsInv_of_inv {s : State} (h : s.inv = true) : rsInv s.cfg s.rs = true := by
  unfold State.inv at h
  exact (Bool.and_eq_true_iff.mp h).2

theorem ratioInv_phaseInv_of_inv {s : State} (h : s.inv = true) : ratioInv s.rs = true ∧ phaseInv s.rs = true := by
  have hrs := rsInv_of_inv h
  simp only [rsInv, Bool.and_eq_true] at hrs
  obtain ⟨⟨⟨hratio, hphase⟩, -⟩, -⟩ := hrs
  exact ⟨hratio, hphase⟩

/-! ## The statement -/

/-- Settles O24. The three clocking operations by the cycles they clock, RST by its reset value, a write of a voice's CONTROL, ATTACK_DECAY
or SUSTAIN_RELEASE by its register rule; every other operation leaves the envelopes alone. -/
theorem envelopeCounterNeverJumps : Obligations.EnvelopeCounterNeverJumps := by
  refine ⟨Env.one_envelopeCounter, fun i s t v hinv h => ?_⟩
  cases i with
  | clk =>
    obtain rfl := done_eq_next.mp h
    exact (clockOne_clockedBy s).envelopeCounter v
  | clkn delta =>
    obtain rfl := done_eq_next.mp h
    exact (clockN_clockedBy delta s).envelopeCounter v
  | render delta maxSamples =>
    obtain rfl := answer_eq_next.mp h
    obtain ⟨hratio, hphase⟩ := ratioInv_phaseInv_of_inv hinv
    obtain ⟨n, hn, hclocked⟩ := renderLoop_clockedBy maxSamples delta s hratio hphase
    exact ⟨n, hn, hclocked.envelopeCounter v⟩
  | rst =>
    obtain rfl := done_eq_next.mp h
    exact congrArg Env.envelopeCounter (ofVoice_everyVoice (Env.afterRst s.cfg) v)
  | wrControl0 b | wrControl1 b | wrControl2 b =>
    obtain rfl := done_eq_next.mp h
    exact busControl_envelopeCounter _ b s v
  | wrAttackDecay0 b | wrAttackDecay1 b | wrAttackDecay2 b =>
    obtain rfl := done_eq_next.mp h
    exact busAttackDecay_envelopeCounter _ b s v
  | wrSustainRelease0 b | wrSustainRelease1 b | wrSustainRelease2 b =>
    obtain rfl := done_eq_next.mp h
    exact busSustainRelease_envelopeCounter _ b s v
  | model number => exact congrArg (fun envs => (ofVoice envs v).envelopeCounter) (execModel_env h)
  | sampling args => exact congrArg (fun envs => (ofVoice envs v).envelopeCounter) (execSampling_env h)
  | calib points => exact congrArg (fun envs => (ofVoice envs v).envelopeCounter) (execCalib_env h)
  | _ =>
    obtain rfl := answer_eq_next.mp h
    rfl

end Sys2Proof.Machine
end

section
/-! PROOFS. The oscillators (40_oscillator.md R140 to R147, 41_noise_lfsr.md R170): the writes of the frequency and of the low byte of the
pulse width, one cycle and n cycles of an oscillator in numbers, and hard sync. -/

namespace Sys2Proof.Machine

open Sys2Proof.Claims

/-! ## Bits as numbers -/

theorem rising_eq_bitRises {w : Nat} (old new : BitVec w) (i : Nat) : rising old new i = bitRises old.toNat new.toNat i := by
  have bit (x : BitVec w) : x.getLsbD i = decide (x.toNat / 2 ^ i % 2 = 1) := Nat.testBit_eq_decide_div_mod_eq
  rw [rising, bitRises, bit, bit, ← decide_not]
  congr 2
  exact propext Nat.mod_two_ne_one

theorem eq_ofNat_of_toNat {w : Nat} {x : BitVec w} {n : Nat} (h : x.toNat = n) : x = BitVec.ofNat w n := by
  rw [← h, BitVec.ofNat_toNat, BitVec.setWidth_eq]

theorem withLoByte_eq_ofNat (x : BitVec 16) (b : Byte) : withLoByte x b = BitVec.ofNat 16 (x.toNat / 256 * 256 + b.toNat) :=
  eq_ofNat_of_toNat (toNat_withLoByte x b)

theorem withHiByte_eq_ofNat (x : BitVec 16) (b : Byte) : withHiByte x b = BitVec.ofNat 16 (b.toNat * 256 + x.toNat % 256) :=
  eq_ofNat_of_toNat (toNat_withHiByte x b)

theorem withPwLo_eq_ofNat (x : BitVec 12) (b : Byte) : withPwLo x b = BitVec.ofNat 12 (x.toNat / 256 * 256 + b.toNat) :=
  eq_ofNat_of_toNat (toNat_withPwLo x b)

/-- The feedback bit of the LFSR: an exclusive or is a sum modulo 2. -/
theorem toNat_ofBool_xor_getLsbD {w : Nat} (r : BitVec w) (i j : Nat) :
    (BitVec.ofBool (r.getLsbD i ^^ r.getLsbD j)).toNat = (r.toNat / 2 ^ i + r.toNat / 2 ^ j) % 2 := by
  have bit (k : Nat) : (r.getLsbD k).toNat = r.toNat / 2 ^ k % 2 := Nat.toNat_testBit _ _
  have sum (p q : Bool) : (p ^^ q).toNat = (p.toNat + q.toNat) % 2 := by cases p <;> cases q <;> rfl
  rw [BitVec.toNat_ofBool, sum, bit, bit, ← Nat.add_mod]

/-- R170 in numbers. -/
theorem lfsrShift_eq_ofNat (r : BitVec 23) :
    lfsrShift r = BitVec.ofNat 23 (2 * r.toNat % 2 ^ 23 + (r.toNat / 2 ^ 22 + r.toNat / 2 ^ 17) % 2) := by
  refine eq_ofNat_of_toNat ((toNat_cat (r.extractLsb' 0 22) _).trans ?_)
  rw [toNat_field, toNat_ofBool_xor_getLsbD]
  omega

/-! ## Register writes -/

theorem exec_wrFreqLo (v : VoiceIdx) (b : Byte) (s : State) : exec (wrFreqLo v b) s = done (busFreqLo v b s) := by
  cases v <;> rfl

theorem exec_wrFreqHi (v : VoiceIdx) (b : Byte) (s : State) : exec (wrFreqHi v b) s = done (busFreqHi v b s) := by
  cases v <;> rfl

theorem exec_wrPwLo (v : VoiceIdx) (b : Byte) (s : State) : exec (wrPwLo v b) s = done (busPwLo v b s) := by
  cases v <;> rfl

/-- R291: a write of a register of one oscillator as a whole next state. -/
theorem done_modifyOsc_latchBus (v : VoiceIdx) (f : Osc → Osc) (b : Byte) (s : State) :
    done (modifyOsc v f (latchBus b s)) = .next { s with
      osc := setVoice s.osc v (f (ofVoice s.osc v))
      chip := latched b s.chip
      result := .none } := rfl

/-- Settles O8. -/
theorem frequencyAndPulseLowWritesReplaceTheirByte : Obligations.FrequencyAndPulseLowWritesReplaceTheirByte := by
  intro v b s
  refine ⟨?_, ?_, ?_, ?_, ?_, ?_⟩
  · cases v <;> rfl
  · cases v <;> rfl
  · cases v <;> rfl
  · rw [exec_wrFreqLo, busFreqLo, done_modifyOsc_latchBus, Osc.writeFreqLo, withLoByte_eq_ofNat]
  · rw [exec_wrFreqHi, busFreqHi, done_modifyOsc_latchBus, Osc.writeFreqHi, withHiByte_eq_ofNat]
  · rw [exec_wrPwLo, busPwLo, done_modifyOsc_latchBus, Osc.writePwLo, withPwLo_eq_ofNat]

/-! ## One cycle of an oscillator (R145) -/

theorem Osc.one_of_test {o : Osc} (h : o.test = true) : o.one = o := by rw [Osc.one, if_pos h]

theorem Osc.toNat_nextAccumulator (o : Osc) :
    o.nextAccumulator.toNat = (o.accumulator.toNat + o.freq.toNat) % 2 ^ 24 := by
  rw [Osc.nextAccumulator, BitVec.toNat_add, BitVec.toNat_setWidth_of_le (by decide)]

/-- The cycle of an oscillator with `test` clear, for its next accumulator as a number. -/
theorem Osc.one_of_test_clear {o : Osc} (h : o.test = false) {a' : Nat}
    (ha : a' = (o.accumulator.toNat + o.freq.toNat) % 2 ^ 24) :
    o.one = { o with
      accumulator := BitVec.ofNat 24 a'
      msbRising := bitRises o.accumulator.toNat a' 23
      shiftRegister := if bitRises o.accumulator.toNat a' 19 then lfsrShift o.shiftRegister else o.shiftRegister } := by
  have hnext : o.nextAccumulator.toNat = a' := o.toNat_nextAccumulator.trans ha.symm
  rw [Osc.one, h, if_neg Bool.false_ne_true, rising_eq_bitRises, rising_eq_bitRises, hnext, ← eq_ofNat_of_toNat hnext]

/-- Settles O18. -/
theorem oscillatorCycle : Obligations.OscillatorCycle := by
  intro o
  refine ⟨Osc.one_of_test, fun h => ?_⟩
  rw [Osc.one_of_test_clear h rfl, lfsrShift_eq_ofNat]

/-! ## n cycles of an oscillator (R147) -/

/-- The accumulator after k cycles, as a number. -/
def Osc.phaseAt (o : Osc) (k : Nat) : Nat := (o.accumulator.toNat + k * o.freq.toNat) % 2 ^ 24

/-- The number of LFSR shifts in n cycles. -/
def Osc.shiftsIn (o : Osc) (n : Nat) : Nat :=
  ((List.range n).filter (fun k => bitRises (o.phaseAt k) (o.phaseAt (k + 1)) 19)).length

/-- The closed form of R147. -/
def Osc.afterCycles (o : Osc) (n : Nat) : Osc :=
  { o with
    accumulator := BitVec.ofNat 24 (o.phaseAt n)
    msbRising := if n = 0 then o.msbRising else bitRises (o.phaseAt (n - 1)) (o.phaseAt n) 23
    shiftRegister := lfsrShift^[o.shiftsIn n] o.shiftRegister }

theorem Osc.phaseAt_zero (o : Osc) : o.phaseAt 0 = o.accumulator.toNat := by
  rw [Osc.phaseAt, Nat.zero_mul, Nat.add_zero, Nat.mod_eq_of_lt o.accumulator.isLt]

theorem Osc.phaseAt_succ (o : Osc) (k : Nat) : o.phaseAt (k + 1) = (o.phaseAt k + o.freq.toNat) % 2 ^ 24 := by
  rw [Osc.phaseAt, Osc.phaseAt, Nat.mod_add_mod, Nat.succ_mul, Nat.add_assoc]

theorem Osc.toNat_afterCycles_accumulator (o : Osc) (n : Nat) : (o.afterCycles n).accumulator.toNat = o.phaseAt n :=
  (BitVec.toNat_ofNat _ _).trans (Nat.mod_mod _ _)

theorem Osc.shiftsIn_succ (o : Osc) (n : Nat) :
    o.shiftsIn (n + 1) = o.shiftsIn n + if bitRises (o.phaseAt n) (o.phaseAt (n + 1)) 19 then 1 else 0 := by
  rw [Osc.shiftsIn, Osc.shiftsIn, List.range_succ, List.filter_append, List.length_append, List.filter_singleton]
  cases bitRises (o.phaseAt n) (o.phaseAt (n + 1)) 19 <;> rfl

theorem Osc.afterCycles_zero (o : Osc) : o.afterCycles 0 = o := by
  rw [Osc.afterCycles, ← eq_ofNat_of_toNat o.phaseAt_zero.symm]
  rfl

/-- One cycle more moves the closed form on by one. -/
theorem Osc.one_afterCycles {o : Osc} (h : o.test = false) (n : Nat) : (o.afterCycles n).one = o.afterCycles (n + 1) := by
  have running : (o.afterCycles n).test = false := h
  have phase : o.phaseAt (n + 1) = ((o.afterCycles n).accumulator.toNat + (o.afterCycles n).freq.toNat) % 2 ^ 24 := by
    rw [o.toNat_afterCycles_accumulator]
    exact o.phaseAt_succ n
  rw [Osc.one_of_test_clear running phase, o.toNat_afterCycles_accumulator]
  by_cases hshift : bitRises (o.phaseAt n) (o.phaseAt (n + 1)) 19 = true
  · simp [Osc.afterCycles, Osc.shiftsIn_succ, hshift, Function.iterate_succ_apply']
  · simp [Osc.afterCycles, Osc.shiftsIn_succ, hshift]

theorem Osc.one_iterate_eq_afterCycles {o : Osc} (h : o.test = false) (n : Nat) : Osc.one^[n] o = o.afterCycles n := by
  induction n with
  | zero => exact o.afterCycles_zero.symm
  | succ n ih => rw [Function.iterate_succ_apply', ih, Osc.one_afterCycles h]

/-- Settles O19. -/
theorem oscillatorManyCyclesClosedForm : Obligations.OscillatorManyCyclesClosedForm :=
  fun _ n h => Osc.one_iterate_eq_afterCycles h n

/-! ## Hard sync (R146) -/

/-- The oscillator of a voice whose source fires its sync, or does not. -/
def Osc.syncedIf (fires : Bool) (o : Osc) : Osc := { o with accumulator := if fires then 0 else o.accumulator }

@[simp] theorem Osc.syncedIf_msbRising (fires : Bool) (o : Osc) : (o.syncedIf fires).msbRising = o.msbRising := rfl
@[simp] theorem Osc.syncedIf_syncEnable (fires : Bool) (o : Osc) : (o.syncedIf fires).syncEnable = o.syncEnable := rfl

/-- What one call does to each voice: only the destination of u can change. -/
theorem ofVoice_synchronize (u : VoiceIdx) (oscs : PerVoice Osc) (v : VoiceIdx) :
    ofVoice (synchronize u oscs) v =
      if u = syncSource v then (ofVoice oscs v).syncedIf (syncFires oscs u) else ofVoice oscs v := by
  by_cases hfires : syncFires oscs u = true
  · by_cases hv : v = syncDest u
    · subst hv
      simp [synchronize, hfires, Osc.syncedIf]
    · have hu : u ≠ syncSource v := fun h => hv (by rw [h, syncDest_syncSource])
      rw [synchronize, if_pos hfires, ofVoice_setVoice_of_ne _ hv, if_neg hu]
  · simp [synchronize, hfires, Osc.syncedIf]

/-- The condition of hard sync reads only flags, and no call writes one: this is why the order does not matter. -/
theorem syncFires_synchronize (u : VoiceIdx) (oscs : PerVoice Osc) (v : VoiceIdx) :
    syncFires (synchronize u oscs) v = syncFires oscs v := by
  have rises (w : VoiceIdx) : (ofVoice (synchronize u oscs) w).msbRising = (ofVoice oscs w).msbRising := by
    rw [ofVoice_synchronize]
    split <;> rfl
  have listens (w : VoiceIdx) : (ofVoice (synchronize u oscs) w).syncEnable = (ofVoice oscs w).syncEnable := by
    rw [ofVoice_synchronize]
    split <;> rfl
  simp only [syncFires, rises, listens]

theorem voiceNumber_lt (v : VoiceIdx) : voiceNumber v < 3 := by cases v <;> decide

theorem voiceNumber_inj {v w : VoiceIdx} : voiceNumber v = voiceNumber w ↔ v = w := by
  cases v <;> cases w <;> decide

/-- Three different voices are all of them. -/
theorem VoiceIdx.eq_or_eq_or_eq {a b c : VoiceIdx} (hab : a ≠ b) (hbc : b ≠ c) (hac : a ≠ c) (u : VoiceIdx) :
    u = a ∨ u = b ∨ u = c := by
  simp only [ne_eq, ← voiceNumber_inj] at hab hbc hac ⊢
  have ha := voiceNumber_lt a
  have hb := voiceNumber_lt b
  have hc := voiceNumber_lt c
  have hu := voiceNumber_lt u
  omega

/-- The three calls in any order: each voice is synced once, by its source. -/
theorem ofVoice_synchronize_three {a b c : VoiceIdx} (hab : a ≠ b) (hbc : b ≠ c) (hac : a ≠ c) (oscs : PerVoice Osc)
    (v : VoiceIdx) :
    ofVoice (synchronize a (synchronize b (synchronize c oscs))) v =
      (ofVoice oscs v).syncedIf (syncFires oscs (syncSource v)) := by
  simp only [ofVoice_synchronize, syncFires_synchronize]
  obtain h | h | h := VoiceIdx.eq_or_eq_or_eq hab hbc hac (syncSource v)
  · simp [h, hab.symm, hac.symm]
  · simp [h, hab, hbc.symm]
  · simp [h, hac, hbc]

theorem ofVoice_synchronizeAll (oscs : PerVoice Osc) (v : VoiceIdx) :
    ofVoice (synchronizeAll oscs) v = (ofVoice oscs v).syncedIf (syncFires oscs (syncSource v)) :=
  ofVoice_synchronize_three (by decide) (by decide) (by decide) oscs v

/-- The condition for the voice that is zeroed, from the source's (R146 is stated for the source). -/
theorem syncFires_syncSource_iff (oscs : PerVoice Osc) (v : VoiceIdx) :
    syncFires oscs (syncSource v) = true ↔
      (ofVoice oscs (syncSource v)).msbRising = true ∧ (ofVoice oscs v).syncEnable = true ∧
      ¬((ofVoice oscs (syncSource v)).syncEnable = true ∧ (ofVoice oscs (syncSource (syncSource v))).msbRising = true) := by
  rw [syncFires, syncDest_syncSource]
  simp only [Bool.and_eq_true, Bool.not_eq_true', ← Bool.not_eq_true, and_assoc]

/-- Settles O20. -/
theorem hardSyncZeroesTheDestination : Obligations.HardSyncZeroesTheDestination := by
  refine ⟨fun a b c oscs hab hbc hac => ?_, fun s => ⟨_, rfl, rfl⟩, fun oscs v => ?_⟩
  · refine perVoice_ext fun v => ?_
    rw [ofVoice_synchronize_three hab hbc hac, ofVoice_synchronizeAll]
  · simp only [ofVoice_synchronizeAll, Osc.syncedIf, syncFires_syncSource_iff]

end Sys2Proof.Machine
end

section
/-! PROOFS. The gate (42_envelope.md R190): the edges of a written bit, and the envelope part of WR CONTROL_v as one record. -/

namespace Sys2Proof.Machine

open Sys2Proof.Claims

/-! ## Edges of a written bit -/

theorem getLsbD_eq_decide_bitOf (b : Byte) (i : Nat) : b.getLsbD i = decide (bitOf b i = 1) :=
  Nat.testBit_eq_decide_div_mod_eq

theorem setEdge_getLsbD_iff (old : Bool) (b : Byte) (i : Nat) :
    setEdge old (b.getLsbD i) = true ↔ old = false ∧ bitOf b i = 1 := by
  rw [setEdge, getLsbD_eq_decide_bitOf, Bool.and_eq_true, Bool.not_eq_true', decide_eq_true_iff]

theorem clearEdge_getLsbD_iff (old : Bool) (b : Byte) (i : Nat) :
    clearEdge old (b.getLsbD i) = true ↔ old = true ∧ bitOf b i = 0 := by
  have clear : ¬ bitOf b i = 1 ↔ bitOf b i = 0 := Nat.mod_two_ne_one
  rw [clearEdge, getLsbD_eq_decide_bitOf, Bool.and_eq_true, Bool.not_eq_true', decide_eq_false_iff_not, clear]

/-! ## The envelope part of WR CONTROL_v -/

/-- R190 in its three cases: a rising gate, a falling gate, the value the gate already has. -/
theorem Env.writeControl_eq (cfg : Cfg) (b : Byte) (e : Env) :
    e.writeControl cfg b = { e with
      gate := decide (bitOf b 0 = 1)
      state := if e.gate = false ∧ bitOf b 0 = 1 then .attack else if e.gate = true ∧ bitOf b 0 = 0 then .release else e.state
      ratePeriod := if e.gate = false ∧ bitOf b 0 = 1 then ratePeriodAt cfg e.attack
        else if e.gate = true ∧ bitOf b 0 = 0 then ratePeriodAt cfg e.release else e.ratePeriod
      holdZero := if e.gate = false ∧ bitOf b 0 = 1 then false else e.holdZero } := by
  simp only [Env.writeControl, setEdge_getLsbD_iff, clearEdge_getLsbD_iff]
  rw [getLsbD_eq_decide_bitOf]
  by_cases rise : e.gate = false ∧ bitOf b 0 = 1
  · simp only [if_pos rise]
  · by_cases fall : e.gate = true ∧ bitOf b 0 = 0
    · simp only [if_neg rise, if_pos fall]
    · simp only [if_neg rise, if_neg fall]

theorem exec_wrControl (v : VoiceIdx) (b : Byte) (s : State) : exec (wrControl v b) s = done (busControl v b s) := by
  cases v <;> rfl

theorem busControl_env (v : VoiceIdx) (b : Byte) (s : State) :
    (busControl v b s).env = setVoice s.env v ((ofVoice s.env v).writeControl s.cfg b) := rfl

/-- Settles O10. -/
theorem gateBitSwitchesTheEnvelope : Obligations.GateBitSwitchesTheEnvelope := by
  intro v b s
  refine ⟨_, exec_wrControl v b s, ?_⟩
  rw [State.setResult_env, busControl_env, Env.writeControl_eq]

end Sys2Proof.Machine
end

section
/-! PROOFS. The filter's inputs (44_filter.md R250, R251): their range, the sum of the chosen ones without wrap, and what CLK's share of the
filter reads and stores. -/

namespace Sys2Proof.Machine

open Sys2Proof.Claims

/-! ## The four scaled inputs (R250) -/

/-- `in[i]` of R250, by its index. -/
def MixInputs.input (x : MixInputs) : Nat → S32
  | 0 => x.in0
  | 1 => x.in1
  | 2 => x.in2
  | _ => x.in3

theorem getLsbD_eq_true_iff {w : Nat} (x : BitVec w) (i : Nat) : x.getLsbD i = true ↔ x.toNat / 2 ^ i % 2 = 1 := by
  rw [BitVec.getLsbD, Nat.testBit_eq_decide_div_mod_eq, decide_eq_true_iff]

theorem getLsbD_eq_false_iff {w : Nat} (x : BitVec w) (i : Nat) : x.getLsbD i = false ↔ x.toNat / 2 ^ i % 2 = 0 := by
  rw [← Bool.not_eq_true, getLsbD_eq_true_iff]
  exact Nat.mod_two_ne_one

theorem voice3Removed_iff (f : Filt) :
    voice3Removed f = true ↔ f.voice3Disconnect = true ∧ f.routing.toNat / 4 % 2 = 0 := by
  rw [voice3Removed, Bool.and_eq_true, Bool.not_eq_true', getLsbD_eq_false_iff]
  rfl

theorem toInt_mixInputs_input (s : State) (i : Nat) : ((mixInputs s).input i).toInt = scaledInput s i := by
  match i with
  | 0 | 1 => exact toInt_asr _ 7
  | 2 =>
    show (if voice3Removed s.filt = true then (0 : S32) else asr (voiceOutput s .v2) 7).toInt = scaledInput s 2
    simp only [scaledInput, voice3Removed_iff, apply_ite BitVec.toInt, toInt_asr]
    rfl
  | _ + 3 => exact toInt_asr _ 7

/-- A shift by 7 leaves 25 bits of an s32. -/
theorem scaledInput_bounds (s : State) (i : Nat) : -2 ^ 24 ≤ scaledInput s i ∧ scaledInput s i < 2 ^ 24 := by
  have shifted (z : S32) : -2 ^ 24 ≤ z.toInt / 128 ∧ z.toInt / 128 < 2 ^ 24 := by
    have low := z.le_toInt
    have high := z.toInt_lt
    omega
  match i with
  | 0 | 1 => exact shifted _
  | 2 =>
    simp only [scaledInput]
    split
    · decide
    · exact shifted _
  | _ + 3 => exact shifted _

/-! ## The two sums (R251) -/

theorem toInt_select32 (b : Bool) (x : S32) : (select32 b x).toInt = if b = true then x.toInt else 0 := by
  cases b <;> rfl

/-- Four numbers of 25 bits add up without wrap in 32 bits. -/
theorem toInt_add_four {x : Nat → S32} (bounds : ∀ i, -2 ^ 24 ≤ (x i).toInt ∧ (x i).toInt < 2 ^ 24) :
    (x 0 + x 1 + x 2 + x 3).toInt = (x 0).toInt + (x 1).toInt + (x 2).toInt + (x 3).toInt := by
  have b0 := bounds 0
  have b1 := bounds 1
  have b2 := bounds 2
  have b3 := bounds 3
  simp only [BitVec.toInt_add, Int.bmod_add_bmod]
  apply Int.bmod_eq_of_le <;> omega

/-- The share of input i in the sum of the inputs whose routing bit is `bit`. -/
def inputShare (s : State) (bit i : Nat) : Int := if s.filt.routing.toNat / 2 ^ i % 2 = bit then scaledInput s i else 0

theorem inputSum_eq_sum_inputShare (s : State) (bit : Nat) :
    inputSum s bit = inputShare s bit 0 + inputShare s bit 1 + inputShare s bit 2 + inputShare s bit 3 := by
  have filtered (l : List Nat) :
      ((l.filter (fun i => s.filt.routing.toNat / 2 ^ i % 2 = bit)).map (scaledInput s)).sum =
        (l.map (inputShare s bit)).sum := by
    induction l with
    | nil => rfl
    | cons i l ih =>
      by_cases h : s.filt.routing.toNat / 2 ^ i % 2 = bit
      · simp [h, inputShare, ih]
      · simp [h, inputShare, ih]
  calc inputSum s bit = ((List.range 4).map (inputShare s bit)).sum := filtered _
    _ = _ := by simp [List.range_succ, add_assoc]

/-- R251: an input goes into exactly one of the two sums. -/
theorem inputShare_one_add_zero (s : State) (i : Nat) : inputShare s 1 i + inputShare s 0 i = scaledInput s i := by
  unfold inputShare
  obtain clear | set := Nat.mod_two_eq_zero_or_one (s.filt.routing.toNat / 2 ^ i)
  · simp [clear]
  · simp [set]

/-- The sum of the chosen inputs is exact, whichever of the two routing bits chooses them. -/
theorem toInt_sum_select32_mixInputs (s : State) {bit : Nat} {chosen : Nat → Bool}
    (hchosen : ∀ i, chosen i = true ↔ s.filt.routing.toNat / 2 ^ i % 2 = bit) :
    (select32 (chosen 0) (mixInputs s).in0 + select32 (chosen 1) (mixInputs s).in1 +
      select32 (chosen 2) (mixInputs s).in2 + select32 (chosen 3) (mixInputs s).in3).toInt = inputSum s bit := by
  have share (i : Nat) : (select32 (chosen i) ((mixInputs s).input i)).toInt = inputShare s bit i := by
    simp only [toInt_select32, toInt_mixInputs_input, hchosen, inputShare]
  have bounds (i : Nat) : -2 ^ 24 ≤ (select32 (chosen i) ((mixInputs s).input i)).toInt ∧
      (select32 (chosen i) ((mixInputs s).input i)).toInt < 2 ^ 24 := by
    rw [share, inputShare]
    split
    · exact scaledInput_bounds s i
    · decide
  rw [inputSum_eq_sum_inputShare, ← share, ← share, ← share, ← share]
  exact toInt_add_four (x := fun i => select32 (chosen i) ((mixInputs s).input i)) bounds

theorem toInt_routedSum (s : State) : (routedSum s.filt.routing (mixInputs s)).toInt = inputSum s 1 :=
  toInt_sum_select32_mixInputs s (chosen := fun i => s.filt.routing.getLsbD i) (getLsbD_eq_true_iff _)

theorem toInt_unroutedSum (s : State) : (unroutedSum s.filt.routing (mixInputs s)).toInt = inputSum s 0 :=
  toInt_sum_select32_mixInputs s (chosen := fun i => !s.filt.routing.getLsbD i) fun i => by
    rw [Bool.not_eq_true', getLsbD_eq_false_iff]

/-! ## The filter's share of CLK (R253) -/

section
variable (order : FilterOrder) (w : S32) (shift : Nat) (q vi : S32) (f : Filt)

@[simp] theorem Filt.integrate_routing : (f.integrate order w shift q vi).routing = f.routing := by cases order <;> rfl
@[simp] theorem Filt.integrate_voice3Disconnect :
    (f.integrate order w shift q vi).voice3Disconnect = f.voice3Disconnect := by cases order <;> rfl
@[simp] theorem Filt.integrate_unfilteredSum :
    (f.integrate order w shift q vi).unfilteredSum = f.unfilteredSum := by cases order <;> rfl

end

theorem filterOne_unfilteredSum (s : State) :
    (filterOne s).filt.unfilteredSum = unroutedSum s.filt.routing (mixInputs s) :=
  Filt.integrate_unfilteredSum ..

theorem filterOne_routing (s : State) : (filterOne s).filt.routing = s.filt.routing := Filt.integrate_routing ..

theorem filterOne_voice3Disconnect (s : State) : (filterOne s).filt.voice3Disconnect = s.filt.voice3Disconnect :=
  Filt.integrate_voice3Disconnect ..

theorem scaledInput_filterOne (s : State) : scaledInput (filterOne s) = scaledInput s := by
  funext i
  match i with
  | 0 | 1 => rfl
  | 2 =>
    simp only [scaledInput, filterOne_routing, filterOne_voice3Disconnect]
    rfl
  | _ + 3 => rfl

/-- The integrator changes none of what its inputs are read from. -/
theorem inputSum_filterOne (s : State) (bit : Nat) : inputSum (filterOne s) bit = inputSum s bit := by
  rw [inputSum, filterOne_routing, scaledInput_filterOne, inputSum]

/-- The output stage and the result do not enter the filter's inputs. -/
theorem inputSum_setResult_outputOne (r : Result) (s : State) (bit : Nat) :
    inputSum ((outputOne s).setResult r) bit = inputSum s bit := rfl

theorem exec_clk (s : State) :
    exec .clk s = .next ((outputOne (filterOne (clockVoices (ageBus s)))).setResult .none) := rfl

/-- Settles O34. -/
theorem routingSplitsTheInputs : Obligations.RoutingSplitsTheInputs := by
  intro s
  refine ⟨toInt_routedSum s, toInt_unroutedSum s, ?_, _, exec_clk s, ?_⟩
  · simp only [inputSum_eq_sum_inputShare, ← inputShare_one_add_zero s]
    omega
  · rw [inputSum_setResult_outputOne, inputSum_filterOne, ← toInt_unroutedSum, ← filterOne_unfilteredSum]
    rfl

end Sys2Proof.Machine
end

section
/-! PROOFS. Decoding what was encoded (30_encoding.md R101 to R103). -/

namespace Sys2Proof

open Sys2Proof.Machine

/-! ## Offsets -/

/-- The upper byte and the lower byte of `arg1` make `arg1`. -/
theorem argHi_cat_argLo (a : BitVec 16) : argHi a ++ argLo a = a := by
  apply BitVec.eq_of_toNat_eq
  rw [toNat_cat, argHi, argLo, toNat_field, toNat_field]
  omega

/-- A bit vector whose upper part is p is p over its lower part. -/
theorem cat_field_of_toNat {n m : Nat} {o : BitVec (n + m)} {p : BitVec n} (h : o.toNat / 2 ^ m = p.toNat) :
    p ++ o.extractLsb' 0 m = o := by
  apply BitVec.eq_of_toNat_eq
  rw [toNat_cat, toNat_field, ← h, pow_zero, Nat.div_one, Nat.div_add_mod']

/-- The offsets below a bound, by their numbers. -/
theorem exists_offset_of_lt {o : Byte} {k : Nat} (h : o.toNat < k) : ∃ n < k, o = BitVec.ofNat 8 n :=
  ⟨o.toNat, h, eq_ofNat_of_toNat rfl⟩

/-- R102 above the last offset with a row of its own: the blocks of the opcode table. -/
theorem decodeWr_of_le {o : Byte} (h : 0x1A ≤ o.toNat) (v : Byte) :
    decodeWr o v =
      if o.toNat < 0x1C then .wrUnmapped1A1B (o.extractLsb' 0 1) v
      else if o.toNat < 0x20 then .wrUnmapped1C1F (o.extractLsb' 0 2) v
      else if o.toNat < 0x40 then .wrUnmapped203F (o.extractLsb' 0 5) v
      else if o.toNat < 0x80 then .wrUnmapped407F (o.extractLsb' 0 6) v
      else .wrUnmapped80FF (o.extractLsb' 0 7) v := by
  unfold decodeWr
  split <;> first | omega | rfl

/-- R103 beside the offsets 0x18 to 0x1D, which have rows of their own. -/
theorem decodeRd_of_lt_or_lt {o : Byte} (h : o.toNat < 0x18 ∨ 0x1D < o.toNat) :
    decodeRd o =
      if o.toNat < 0x10 then .rdBus000F (o.extractLsb' 0 4)
      else if o.toNat < 0x18 then .rdBus1017 (o.extractLsb' 0 3)
      else if o.toNat < 0x20 then .rdBus1E1F (o.extractLsb' 0 1)
      else if o.toNat < 0x40 then .rdBus203F (o.extractLsb' 0 5)
      else if o.toNat < 0x80 then .rdBus407F (o.extractLsb' 0 6)
      else .rdBus80FF (o.extractLsb' 0 7) := by
  unfold decodeRd
  split <;> first | omega | rfl

/-! ## Decoding what was encoded -/

section
variable (v : Byte)

theorem decodeWr_1A1B (lo : BitVec 1) : decodeWr (0xD#7 ++ lo) v = .wrUnmapped1A1B lo v := by
  have number : (0xD#7 ++ lo).toNat = 0xD * 2 ^ 1 + lo.toNat := toNat_cat _ _
  rw [decodeWr_of_le (by omega), if_pos (by omega), BitVec.extractLsb'_append_eq_right]

theorem decodeWr_1C1F (lo : BitVec 2) : decodeWr (0x7#6 ++ lo) v = .wrUnmapped1C1F lo v := by
  have number : (0x7#6 ++ lo).toNat = 0x7 * 2 ^ 2 + lo.toNat := toNat_cat _ _
  rw [decodeWr_of_le (by omega), if_neg (by omega), if_pos (by omega), BitVec.extractLsb'_append_eq_right]

theorem decodeWr_203F (lo : BitVec 5) : decodeWr (0x1#3 ++ lo) v = .wrUnmapped203F lo v := by
  have number : (0x1#3 ++ lo).toNat = 0x1 * 2 ^ 5 + lo.toNat := toNat_cat _ _
  rw [decodeWr_of_le (by omega), if_neg (by omega), if_neg (by omega), if_pos (by omega),
    BitVec.extractLsb'_append_eq_right]

theorem decodeWr_407F (lo : BitVec 6) : decodeWr (0x1#2 ++ lo) v = .wrUnmapped407F lo v := by
  have number : (0x1#2 ++ lo).toNat = 0x1 * 2 ^ 6 + lo.toNat := toNat_cat _ _
  rw [decodeWr_of_le (by omega), if_neg (by omega), if_neg (by omega), if_neg (by omega), if_pos (by omega),
    BitVec.extractLsb'_append_eq_right]

theorem decodeWr_80FF (lo : BitVec 7) : decodeWr (0x1#1 ++ lo) v = .wrUnmapped80FF lo v := by
  have number : (0x1#1 ++ lo).toNat = 0x1 * 2 ^ 7 + lo.toNat := toNat_cat _ _
  rw [decodeWr_of_le (by omega), if_neg (by omega), if_neg (by omega), if_neg (by omega), if_neg (by omega),
    BitVec.extractLsb'_append_eq_right]

end

theorem decodeRd_000F (lo : BitVec 4) : decodeRd (0x0#4 ++ lo) = .rdBus000F lo := by
  have number : (0x0#4 ++ lo).toNat = 0x0 * 2 ^ 4 + lo.toNat := toNat_cat _ _
  rw [decodeRd_of_lt_or_lt (by omega), if_pos (by omega), BitVec.extractLsb'_append_eq_right]

theorem decodeRd_1017 (lo : BitVec 3) : decodeRd (0x2#5 ++ lo) = .rdBus1017 lo := by
  have number : (0x2#5 ++ lo).toNat = 0x2 * 2 ^ 3 + lo.toNat := toNat_cat _ _
  rw [decodeRd_of_lt_or_lt (by omega), if_neg (by omega), if_pos (by omega), BitVec.extractLsb'_append_eq_right]

theorem decodeRd_1E1F (lo : BitVec 1) : decodeRd (0xF#7 ++ lo) = .rdBus1E1F lo := by
  have number : (0xF#7 ++ lo).toNat = 0xF * 2 ^ 1 + lo.toNat := toNat_cat _ _
  rw [decodeRd_of_lt_or_lt (by omega), if_neg (by omega), if_neg (by omega), if_pos (by omega),
    BitVec.extractLsb'_append_eq_right]

theorem decodeRd_203F (lo : BitVec 5) : decodeRd (0x1#3 ++ lo) = .rdBus203F lo := by
  have number : (0x1#3 ++ lo).toNat = 0x1 * 2 ^ 5 + lo.toNat := toNat_cat _ _
  rw [decodeRd_of_lt_or_lt (by omega), if_neg (by omega), if_neg (by omega), if_neg (by omega), if_pos (by omega),
    BitVec.extractLsb'_append_eq_right]

theorem decodeRd_407F (lo : BitVec 6) : decodeRd (0x1#2 ++ lo) = .rdBus407F lo := by
  have number : (0x1#2 ++ lo).toNat = 0x1 * 2 ^ 6 + lo.toNat := toNat_cat _ _
  rw [decodeRd_of_lt_or_lt (by omega), if_neg (by omega), if_neg (by omega), if_neg (by omega), if_neg (by omega),
    if_pos (by omega), BitVec.extractLsb'_append_eq_right]

theorem decodeRd_80FF (lo : BitVec 7) : decodeRd (0x1#1 ++ lo) = .rdBus80FF lo := by
  have number : (0x1#1 ++ lo).toNat = 0x1 * 2 ^ 7 + lo.toNat := toNat_cat _ _
  rw [decodeRd_of_lt_or_lt (by omega), if_neg (by omega), if_neg (by omega), if_neg (by omega), if_neg (by omega),
    if_neg (by omega), BitVec.extractLsb'_append_eq_right]

/-- R101: the operands of CLKN, RENDER and MODEL come back only where they fit their fields; every other operand fits by its type. -/
theorem decode_encode {i : Instr} (h : i.wf = true) : decode (encode i) = .ok i := by
  cases i with
  | wrUnmapped1A1B lo v => rw [encode, decode_wr, decodeWr_1A1B]
  | wrUnmapped1C1F lo v => rw [encode, decode_wr, decodeWr_1C1F]
  | wrUnmapped203F lo v => rw [encode, decode_wr, decodeWr_203F]
  | wrUnmapped407F lo v => rw [encode, decode_wr, decodeWr_407F]
  | wrUnmapped80FF lo v => rw [encode, decode_wr, decodeWr_80FF]
  | rdBus000F lo => rw [encode, decode_rd, decodeRd_000F]
  | rdBus1017 lo => rw [encode, decode_rd, decodeRd_1017]
  | rdBus1E1F lo => rw [encode, decode_rd, decodeRd_1E1F]
  | rdBus203F lo => rw [encode, decode_rd, decodeRd_203F]
  | rdBus407F lo => rw [encode, decode_rd, decodeRd_407F]
  | rdBus80FF lo => rw [encode, decode_rd, decodeRd_80FF]
  | rdPotx | rdPoty | rdOsc3 | rdEnv3 | rdBus1818 | rdBus1D1D => exact decode_rd _
  | clk | rst | out => rfl
  | clkn delta =>
    have fits : delta < 2 ^ 16 := of_decide_eq_true h
    rw [encode, decode_clkn, BitVec.toNat_ofNat, Nat.mod_eq_of_lt fits]
  | extin sample => exact decode_extin sample
  | render delta maxSamples =>
    obtain ⟨delta_fits, samples_fit⟩ : delta < 2 ^ 16 ∧ maxSamples < 2 ^ 12 := by simpa [Instr.wf] using h
    rw [encode, decode_render, BitVec.toNat_ofNat, BitVec.toNat_ofNat, Nat.mod_eq_of_lt delta_fits,
      Nat.mod_eq_of_lt samples_fit]
  | model number =>
    obtain ⟨nonneg, fits⟩ : 0 ≤ number ∧ number < (2 ^ 16 : Nat) := by simpa [Instr.wf] using h
    rw [encode, decode_model, BitVec.toNat_ofInt, Int.emod_eq_of_lt nonneg fits, Int.toNat_of_nonneg nonneg]
  | muteV0 flag | muteV1 flag | muteV2 flag | exten flag => cases flag <;> rfl
  | sampling args => exact decode_sampling args []
  | calib points => exact decode_calib SamplingArgs.blank points
  | _ => exact decode_wr _ _

/-- Settles O1. -/
theorem decodeOfEncodeIsTheOperation : Obligations.DecodeOfEncodeIsTheOperation := fun _ h => decode_encode h

end Sys2Proof
end

section
/-! PROOFS. What decodes (30_encoding.md R101, R106): the word of each class with its operation, and that no bit of a word is dropped. -/

namespace Sys2Proof

open Sys2Proof.Machine Sys2Proof.Claims

/-! ## Words by class -/

theorem word_of_class {w : Word} {n : Nat} (h : (wordClass w).toNat = n) :
    w = word (BitVec.ofNat 4 n) (wordArg2 w) (wordArg1 w) := by
  rw [← eq_ofNat_of_toNat h, word_fields]

theorem whenZero_eq_ok {zero : Bool} {i j : Instr} : whenZero zero i = .ok j ↔ zero = true ∧ i = j := by
  cases zero <;> simp [whenZero]

/-- `arg1` of a MUTE word. -/
def muteArg (v : VoiceIdx) (flag : Bool) : BitVec 16 :=
  (0#6 ++ BitVec.ofNat 2 (voiceNumber v)) ++ (0#7 ++ BitVec.ofBool flag)

theorem toNat_muteArg (v : VoiceIdx) (flag : Bool) : (muteArg v flag).toNat = voiceNumber v * 256 + flag.toNat := by
  cases v <;> cases flag <;> rfl

theorem eq_muteArg {a : BitVec 16} {v : VoiceIdx} (high : a.extractLsb' 10 6 = 0) (low : a.extractLsb' 1 7 = 0)
    (voice : (a.extractLsb' 8 2).toNat = voiceNumber v) : a = muteArg v (a.getLsbD 0) := by
  have high' := congrArg BitVec.toNat high
  have low' := congrArg BitVec.toNat low
  rw [toNat_field] at high' low' voice
  have flag : (a.getLsbD 0).toNat = a.toNat / 2 ^ 0 % 2 := Nat.toNat_testBit _ _
  apply BitVec.eq_of_toNat_eq
  rw [toNat_muteArg, flag, ← voice]
  have bound := a.isLt
  change a.toNat / 2 ^ 10 % 2 ^ 6 = 0 at high'
  change a.toNat / 2 ^ 1 % 2 ^ 7 = 0 at low'
  omega

theorem decodeMute_eq_ok {a : BitVec 16} {i : Instr} (h : decodeMute a = .ok i) :
    ∃ v flag, a = muteArg v flag ∧ i = mute v flag := by
  unfold decodeMute at h
  split at h
  · cases h
  next zero =>
    obtain ⟨high, low⟩ : a.extractLsb' 10 6 = 0 ∧ a.extractLsb' 1 7 = 0 := by simpa using zero
    split at h
    next voice => exact ⟨.v0, _, eq_muteArg high low voice, (Except.ok.inj h).symm⟩
    next voice => exact ⟨.v1, _, eq_muteArg high low voice, (Except.ok.inj h).symm⟩
    next voice => exact ⟨.v2, _, eq_muteArg high low voice, (Except.ok.inj h).symm⟩
    next => cases h

theorem eq_flagArg {a : BitVec 16} (high : a.extractLsb' 1 15 = 0) : a = 0#15 ++ BitVec.ofBool (a.getLsbD 0) := by
  have high' := congrArg BitVec.toNat high
  rw [toNat_field] at high'
  have flag : (a.getLsbD 0).toNat = a.toNat / 2 ^ 0 % 2 := Nat.toNat_testBit _ _
  apply BitVec.eq_of_toNat_eq
  rw [toNat_cat, BitVec.toNat_ofBool, flag]
  change a.toNat / 2 ^ 1 % 2 ^ 15 = 0 at high'
  change a.toNat = 0 * 2 ^ 1 + a.toNat / 2 ^ 0 % 2
  omega

/-- What a command that decodes is, class by class, and the operation it gives. -/
inductive Carries (c : Command) : Instr → Prop
  | clk (hw : c.word = word 0 0 0) : Carries c .clk
  | wr (o v : Byte) (hw : c.word = word 1 0 (o ++ v)) : Carries c (decodeWr o v)
  | rd (o : Byte) (hw : c.word = word 2 0 (o ++ 0#8)) : Carries c (decodeRd o)
  | clkn (a : BitVec 16) (hw : c.word = word 3 0 a) : Carries c (.clkn a.toNat)
  | rst (hw : c.word = word 4 0 0) : Carries c .rst
  | extin (a : S16) (hw : c.word = word 5 0 a) : Carries c (.extin a)
  | out (hw : c.word = word 6 0 0) : Carries c .out
  | render (m : BitVec 12) (a : BitVec 16) (hw : c.word = word 7 m a) : Carries c (.render a.toNat m.toNat)
  | model (a : BitVec 16) (hw : c.word = word 8 0 a) : Carries c (.model a.toNat)
  | mute (v : VoiceIdx) (flag : Bool) (hw : c.word = word 9 0 (muteArg v flag)) : Carries c (mute v flag)
  | exten (flag : Bool) (hw : c.word = word 0xA 0 (0#15 ++ BitVec.ofBool flag)) : Carries c (.exten flag)
  | sampling (hw : c.word = word 0xB 0 0) : Carries c (.sampling c.record)
  | calib (hw : c.word = word 0xC 0 0) : Carries c (.calib c.points)

/-- A word of a class whose `arg2` must be zero. -/
theorem word_of_class_zero {w : Word} {n : Nat} (cls : (wordClass w).toNat = n) (zero : (wordArg2 w == 0) = true) :
    w = word (BitVec.ofNat 4 n) 0 (wordArg1 w) := by
  rw [← beq_iff_eq.mp zero]
  exact word_of_class cls

/-- A word of a class whose `arg2` and `arg1` must be zero. -/
theorem word_of_class_zero_zero {w : Word} {n : Nat} (cls : (wordClass w).toNat = n)
    (zero : (wordArg2 w == 0 && wordArg1 w == 0) = true) : w = word (BitVec.ofNat 4 n) 0 0 := by
  obtain ⟨zero2, zero1⟩ := Bool.and_eq_true_iff.mp zero
  rw [← beq_iff_eq.mp zero1]
  exact word_of_class_zero cls zero2

theorem carries_of_decode {c : Command} {i : Instr} (h : decode c = .ok i) : Carries c i := by
  simp only [decode] at h
  split at h
  next cls =>
    obtain ⟨zero, rfl⟩ := whenZero_eq_ok.mp h
    exact .clk (word_of_class_zero_zero cls zero)
  next cls =>
    obtain ⟨zero, rfl⟩ := whenZero_eq_ok.mp h
    exact .wr _ _ ((word_of_class_zero cls zero).trans (by rw [argHi_cat_argLo]; rfl))
  next cls =>
    obtain ⟨zero, rfl⟩ := whenZero_eq_ok.mp h
    obtain ⟨zero2, zero1⟩ := Bool.and_eq_true_iff.mp zero
    have value : argLo (wordArg1 c.word) = 0#8 := beq_iff_eq.mp zero1
    exact .rd _ ((word_of_class_zero cls zero2).trans (by rw [← value, argHi_cat_argLo]; rfl))
  next cls =>
    obtain ⟨zero, rfl⟩ := whenZero_eq_ok.mp h
    exact .clkn _ (word_of_class_zero cls zero)
  next cls =>
    obtain ⟨zero, rfl⟩ := whenZero_eq_ok.mp h
    exact .rst (word_of_class_zero_zero cls zero)
  next cls =>
    obtain ⟨zero, rfl⟩ := whenZero_eq_ok.mp h
    exact .extin _ (word_of_class_zero cls zero)
  next cls =>
    obtain ⟨zero, rfl⟩ := whenZero_eq_ok.mp h
    exact .out (word_of_class_zero_zero cls zero)
  next cls =>
    obtain rfl := Except.ok.inj h
    exact .render _ _ (word_of_class cls)
  next cls =>
    obtain ⟨zero, rfl⟩ := whenZero_eq_ok.mp h
    exact .model _ (word_of_class_zero cls zero)
  next cls =>
    split at h
    next zero =>
      obtain ⟨v, flag, harg, rfl⟩ := decodeMute_eq_ok h
      exact .mute v flag ((word_of_class_zero cls zero).trans (congrArg (word 9 0) harg))
    next => cases h
  next cls =>
    obtain ⟨zero, rfl⟩ := whenZero_eq_ok.mp h
    obtain ⟨zero2, zero1⟩ := Bool.and_eq_true_iff.mp zero
    exact .exten _ ((word_of_class_zero cls zero2).trans (congrArg (word 0xA 0) (eq_flagArg (beq_iff_eq.mp zero1))))
  next cls =>
    obtain ⟨zero, rfl⟩ := whenZero_eq_ok.mp h
    exact .sampling (word_of_class_zero_zero cls zero)
  next cls =>
    obtain ⟨zero, rfl⟩ := whenZero_eq_ok.mp h
    exact .calib (word_of_class_zero_zero cls zero)
  next => cases h

/-! ## Encoding what was decoded -/

theorem wf_decodeWr (o v : Byte) : (decodeWr o v).wf = true := by
  unfold decodeWr
  split <;> first | rfl | (split_ifs <;> rfl)

theorem wf_decodeRd (o : Byte) : (decodeRd o).wf = true := by
  unfold decodeRd
  split <;> first | rfl | (split_ifs <;> rfl)

theorem encode_decodeWr (o v : Byte) : (encode (decodeWr o v)).word = word 1 0 (o ++ v) := by
  obtain mapped | unmapped : o.toNat < 0x1A ∨ 0x1A ≤ o.toNat := by omega
  · obtain ⟨n, hn, rfl⟩ := exists_offset_of_lt mapped
    interval_cases n <;> rfl
  · rw [decodeWr_of_le unmapped]
    split_ifs
    · exact congrArg (fun x : Byte => word 1 0 (x ++ v)) (cat_field_of_toNat (m := 1) (p := 0xD#7) (by show _ = 0xD; omega))
    · exact congrArg (fun x : Byte => word 1 0 (x ++ v)) (cat_field_of_toNat (m := 2) (p := 0x7#6) (by show _ = 0x7; omega))
    · exact congrArg (fun x : Byte => word 1 0 (x ++ v)) (cat_field_of_toNat (m := 5) (p := 0x1#3) (by show _ = 0x1; omega))
    · exact congrArg (fun x : Byte => word 1 0 (x ++ v)) (cat_field_of_toNat (m := 6) (p := 0x1#2) (by show _ = 0x1; omega))
    · exact congrArg (fun x : Byte => word 1 0 (x ++ v)) (cat_field_of_toNat (m := 7) (p := 0x1#1) (by show _ = 0x1; omega))

/-- A RD word has no operand beside its offset, so this is a fact about 256 offsets. -/
theorem encode_decodeRd (o : Byte) : (encode (decodeRd o)).word = word 2 0 (o ++ 0#8) := by
  revert o
  decide +kernel

theorem encode_mute (v : VoiceIdx) (flag : Bool) : (encode (mute v flag)).word = word 9 0 (muteArg v flag) := by
  cases v <;> rfl

theorem wf_mute (v : VoiceIdx) (flag : Bool) : (mute v flag).wf = true := by cases v <;> rfl

theorem Carries.wf {c : Command} {i : Instr} (h : Carries c i) : i.wf = true := by
  cases h with
  | wr o v => exact wf_decodeWr o v
  | rd o => exact wf_decodeRd o
  | clkn a => exact decide_eq_true a.isLt
  | render m a => simpa [Instr.wf] using ⟨a.isLt, m.isLt⟩
  | model a =>
    have bound := a.isLt
    simp only [Instr.wf, Bool.and_eq_true, decide_eq_true_eq]
    omega
  | mute v flag => exact wf_mute v flag
  | clk | rst | extin | out | exten | sampling | calib => rfl

theorem Carries.word_encode {c : Command} {i : Instr} (h : Carries c i) : (encode i).word = c.word := by
  cases h with
  | wr o v hw => rw [hw, encode_decodeWr]
  | rd o hw => rw [hw, encode_decodeRd]
  | clkn a hw => rw [hw, encode, BitVec.ofNat_toNat, BitVec.setWidth_eq]; rfl
  | render m a hw => rw [hw, encode, BitVec.ofNat_toNat, BitVec.setWidth_eq, BitVec.ofNat_toNat, BitVec.setWidth_eq]; rfl
  | model a hw => rw [hw, encode, BitVec.ofInt_natCast, BitVec.ofNat_toNat, BitVec.setWidth_eq]; rfl
  | mute v flag hw => rw [hw, encode_mute]
  | clk hw | rst hw | extin _ hw | out hw | exten _ hw | sampling hw | calib hw => exact hw.symm

/-- Settles O2. -/
theorem encodeOfDecodeIsTheWord : Obligations.EncodeOfDecodeIsTheWord := fun _ _ h =>
  ⟨(carries_of_decode h).wf, (carries_of_decode h).word_encode⟩

/-! ## Every operation is of one of thirteen kinds -/

/-- Case analysis of an operation by its class of command word (R101): all WR rows are one case, all RD rows one. -/
theorem Instr.kinds {P : Instr → Prop} (wr : ∀ o b, P (decodeWr o b)) (rd : ∀ o, P (decodeRd o)) (clk : P .clk)
    (clkn : ∀ d, P (.clkn d)) (rst : P .rst) (extin : ∀ x, P (.extin x)) (out : P .out) (render : ∀ d m, P (.render d m))
    (model : ∀ n, P (.model n)) (mute : ∀ v flag, P (mute v flag)) (exten : ∀ flag, P (.exten flag))
    (sampling : ∀ args, P (.sampling args)) (calib : ∀ points, P (.calib points)) (i : Instr) : P i := by
  have carried {j : Instr} (h : j.wf = true) : P j := by
    have hc := carries_of_decode (decode_encode h)
    generalize encode j = c at hc
    cases hc with
    | wr o b => exact wr o b
    | rd o => exact rd o
    | clk => exact clk
    | clkn a => exact clkn _
    | rst => exact rst
    | extin a => exact extin a
    | out => exact out
    | render m a => exact render _ _
    | model a => exact model _
    | mute v flag => exact mute v flag
    | exten flag => exact exten flag
    | sampling => exact sampling _
    | calib => exact calib _
  cases i with
  | clkn d => exact clkn d
  | render d m => exact render d m
  | model n => exact model n
  | _ => exact carried rfl

end Sys2Proof
end

section
/-! PROOFS. The opcode table (30_encoding.md R106, spec/opcode_table.json): its rows are disjoint and hold exactly the words that decode. -/

namespace Sys2Proof

open Sys2Proof.Machine Sys2Proof.Claims

/-! ## Rows -/

theorem OpcodeRow.covers_iff {r : OpcodeRow} {w : Word} : r.covers w = true ↔ w &&& r.mask = r.pattern := beq_iff_eq

/-- A row that asks for every bit of a field fixes the field. -/
theorem OpcodeRow.field_of_covers {r : OpcodeRow} {w : Word} (h : r.covers w = true) {lo len : Nat}
    (full : r.mask.extractLsb' lo len = BitVec.allOnes len) : w.extractLsb' lo len = r.pattern.extractLsb' lo len := by
  rw [← OpcodeRow.covers_iff.mp h, BitVec.extractLsb'_and, full, BitVec.and_allOnes]

/-- Disjoint rows share no word: a bit both masks hold cannot have two values. -/
theorem OpcodeRow.not_covers_of_disjoint {r q : OpcodeRow} (h : r.disjoint q = true) {w : Word}
    (hr : r.covers w = true) : q.covers w = false := by
  by_contra hq
  rw [Bool.not_eq_false, OpcodeRow.covers_iff] at hq
  rw [OpcodeRow.covers_iff] at hr
  refine absurd ?_ (bne_iff_ne.mp h)
  rw [← hr, ← hq]
  ext i
  simp
  cases w[i] <;> cases r.mask[i] <;> cases q.mask[i] <;> decide

/-- The rows class by class, coarser than the table: one row for all offsets of WR and one for those of RD. -/
def classRows : List OpcodeRow :=
  [⟨"CLK", word 0 0 0, word 0xF 0xFFF 0xFFFF⟩,
   ⟨"WR", word 1 0 0, word 0xF 0xFFF 0⟩,
   ⟨"RD", word 2 0 0, word 0xF 0xFFF 0x00FF⟩,
   ⟨"CLKN", word 3 0 0, word 0xF 0xFFF 0⟩,
   ⟨"RST", word 4 0 0, word 0xF 0xFFF 0xFFFF⟩,
   ⟨"EXTIN", word 5 0 0, word 0xF 0xFFF 0⟩,
   ⟨"OUT", word 6 0 0, word 0xF 0xFFF 0xFFFF⟩,
   ⟨"RENDER", word 7 0 0, word 0xF 0 0⟩,
   ⟨"MODEL", word 8 0 0, word 0xF 0xFFF 0⟩,
   ⟨"MUTE.v0", word 9 0 0x0000, word 0xF 0xFFF 0xFFFE⟩,
   ⟨"MUTE.v1", word 9 0 0x0100, word 0xF 0xFFF 0xFFFE⟩,
   ⟨"MUTE.v2", word 9 0 0x0200, word 0xF 0xFFF 0xFFFE⟩,
   ⟨"EXTEN", word 0xA 0 0, word 0xF 0xFFF 0xFFFE⟩,
   ⟨"SAMPLING", word 0xB 0 0, word 0xF 0xFFF 0xFFFF⟩,
   ⟨"CALIB", word 0xC 0 0, word 0xF 0xFFF 0xFFFF⟩]

/-- Every row of the table refines the row of its class. -/
theorem exists_classRow_of_covers {r : OpcodeRow} (hr : r ∈ opcodeRows) {w : Word} (h : r.covers w = true) :
    ∃ q ∈ classRows, q.covers w = true := by
  have refines : ∀ r ∈ opcodeRows, ∃ q ∈ classRows, r.mask &&& q.mask = q.mask ∧ r.pattern &&& q.mask = q.pattern := by
    decide +kernel
  obtain ⟨q, hq, hmask, hpattern⟩ := refines r hr
  refine ⟨q, hq, OpcodeRow.covers_iff.mpr ?_⟩
  rw [← hpattern, ← OpcodeRow.covers_iff.mp h, BitVec.and_assoc, hmask]

/-- A row with one free bit, the lowest, holds two words. -/
theorem OpcodeRow.eq_or_eq_of_covers {r : OpcodeRow} {w : Word} (h : r.covers w = true)
    (full : r.mask.extractLsb' 1 31 = BitVec.allOnes 31) (even : r.pattern.toNat % 2 = 0) :
    w = r.pattern ∨ w = r.pattern + 1 := by
  have upper := congrArg BitVec.toNat (OpcodeRow.field_of_covers h full)
  rw [toNat_field, toNat_field] at upper
  bv_omega

theorem OpcodeRow.eq_of_covers {r : OpcodeRow} {w : Word} (h : r.covers w = true) (full : r.mask = BitVec.allOnes 32) :
    w = r.pattern := by
  rw [← OpcodeRow.covers_iff.mp h, full, BitVec.and_allOnes]

theorem OpcodeRow.wordClass_of_covers {r : OpcodeRow} {w : Word} (h : r.covers w = true)
    (full : wordClass r.mask = BitVec.allOnes 4) : wordClass w = wordClass r.pattern := OpcodeRow.field_of_covers h full

theorem OpcodeRow.wordArg2_of_covers {r : OpcodeRow} {w : Word} (h : r.covers w = true)
    (full : wordArg2 r.mask = BitVec.allOnes 12) : wordArg2 w = wordArg2 r.pattern := OpcodeRow.field_of_covers h full

/-- A row that fixes class and `arg2` leaves `arg1`. -/
theorem OpcodeRow.eq_word_of_covers {r : OpcodeRow} {w : Word} (h : r.covers w = true)
    (fullClass : wordClass r.mask = BitVec.allOnes 4) (fullArg2 : wordArg2 r.mask = BitVec.allOnes 12) :
    w = word (wordClass r.pattern) (wordArg2 r.pattern) (wordArg1 w) := by
  rw [← OpcodeRow.wordClass_of_covers h fullClass, ← OpcodeRow.wordArg2_of_covers h fullArg2, word_fields]

theorem argLo_wordArg1 (w : Word) : argLo (wordArg1 w) = w.extractLsb' 0 8 := by
  apply BitVec.eq_of_toNat_eq
  rw [argLo, wordArg1, toNat_field, toNat_field, toNat_field]
  omega

/-- Every word of a class row decodes. -/
theorem decode_of_covers_classRow {q : OpcodeRow} (hq : q ∈ classRows) {w : Word} (h : q.covers w = true) :
    ∃ i, decode (Command.plain w) = .ok i := by
  simp only [classRows, List.mem_cons, List.not_mem_nil, or_false] at hq
  obtain rfl | rfl | rfl | rfl | rfl | rfl | rfl | rfl | rfl | rfl | rfl | rfl | rfl | rfl | rfl := hq
  · rw [OpcodeRow.eq_of_covers h rfl]
    exact ⟨_, rfl⟩
  · rw [OpcodeRow.eq_word_of_covers h rfl rfl, ← argHi_cat_argLo (wordArg1 w)]
    exact ⟨_, decode_wr _ _⟩
  · have value : argLo (wordArg1 w) = 0#8 := (argLo_wordArg1 w).trans (OpcodeRow.field_of_covers h rfl)
    rw [OpcodeRow.eq_word_of_covers h rfl rfl, ← argHi_cat_argLo (wordArg1 w), value]
    exact ⟨_, decode_rd _⟩
  · rw [OpcodeRow.eq_word_of_covers h rfl rfl]
    exact ⟨_, decode_clkn _⟩
  · rw [OpcodeRow.eq_of_covers h rfl]
    exact ⟨_, rfl⟩
  · rw [OpcodeRow.eq_word_of_covers h rfl rfl]
    exact ⟨_, decode_extin _⟩
  · rw [OpcodeRow.eq_of_covers h rfl]
    exact ⟨_, rfl⟩
  · rw [← word_fields w, OpcodeRow.wordClass_of_covers h rfl]
    exact ⟨_, decode_render _ _⟩
  · rw [OpcodeRow.eq_word_of_covers h rfl rfl]
    exact ⟨_, decode_model _⟩
  · obtain rfl | rfl := OpcodeRow.eq_or_eq_of_covers h rfl rfl <;> exact ⟨_, rfl⟩
  · obtain rfl | rfl := OpcodeRow.eq_or_eq_of_covers h rfl rfl <;> exact ⟨_, rfl⟩
  · obtain rfl | rfl := OpcodeRow.eq_or_eq_of_covers h rfl rfl <;> exact ⟨_, rfl⟩
  · obtain rfl | rfl := OpcodeRow.eq_or_eq_of_covers h rfl rfl <;> exact ⟨_, rfl⟩
  · rw [OpcodeRow.eq_of_covers h rfl]
    exact ⟨_, rfl⟩
  · rw [OpcodeRow.eq_of_covers h rfl]
    exact ⟨_, rfl⟩

/-! ## Words that decode have a row -/

/-- A WR word has a row, whatever its value: a fact about 256 offsets. -/
theorem exists_row_wr (o v : Byte) : ∃ r ∈ opcodeRows, r.covers (word 1 0 (o ++ v)) = true := by
  have rows : ∀ o : Byte, ∃ r ∈ opcodeRows, word 1 0 (o ++ 0#8) &&& r.mask = r.pattern ∧ 0xFFFFFF00#32 &&& r.mask = r.mask := by
    decide +kernel
  obtain ⟨r, hr, hpattern, hmask⟩ := rows o
  have cut : word 1 0 (o ++ v) &&& 0xFFFFFF00#32 = word 1 0 (o ++ 0#8) := by
    have mask : 0xFFFFFF00#32 = word 0xF 0xFFF (BitVec.allOnes 8 ++ 0#8) := rfl
    rw [mask, word, word, word, BitVec.and_append, BitVec.and_append, BitVec.and_append, BitVec.and_allOnes,
      BitVec.and_zero]
    rfl
  refine ⟨r, hr, OpcodeRow.covers_iff.mpr ?_⟩
  rw [← hmask, ← BitVec.and_assoc, cut, hpattern]

theorem exists_row_rd (o : Byte) : ∃ r ∈ opcodeRows, r.covers (word 2 0 (o ++ 0#8)) = true := by
  revert o
  decide +kernel

/-- The row of the table with a given pattern and mask. -/
theorem exists_row_of_pattern {p m : Word} (h : ∃ r ∈ opcodeRows, r.pattern = p ∧ r.mask = m) {w : Word} (hw : w &&& m = p) :
    ∃ r ∈ opcodeRows, r.covers w = true := by
  obtain ⟨r, hr, rfl, rfl⟩ := h
  exact ⟨r, hr, OpcodeRow.covers_iff.mpr hw⟩

theorem word_and_word (c c' : BitVec 4) (a a' : BitVec 12) (b b' : BitVec 16) :
    word c a b &&& word c' a' b' = word (c &&& c') (a &&& a') (b &&& b') := by
  rw [word, word, word, BitVec.and_append, BitVec.and_append]

/-- Every word that decodes has a row. -/
theorem Carries.exists_row {c : Command} {i : Instr} (h : Carries c i) : ∃ r ∈ opcodeRows, r.covers c.word = true := by
  cases h with
  | wr o v hw => rw [hw]; exact exists_row_wr o v
  | rd o hw => rw [hw]; exact exists_row_rd o
  | clkn a hw | extin a hw | model a hw =>
    rw [hw]
    refine exists_row_of_pattern (m := word 0xF 0xFFF 0) ?_ (word_and_word _ _ _ _ _ _)
    rw [show a &&& 0 = 0 from BitVec.and_zero]
    decide +kernel
  | render m a hw =>
    rw [hw]
    refine exists_row_of_pattern (m := word 0xF 0 0) ?_ (word_and_word _ _ _ _ _ _)
    rw [show a &&& 0 = 0 from BitVec.and_zero, show m &&& 0 = 0 from BitVec.and_zero]
    decide +kernel
  | mute v flag hw => rw [hw]; cases v <;> cases flag <;> decide +kernel
  | exten flag hw => rw [hw]; cases flag <;> decide +kernel
  | clk hw | rst hw | out hw | sampling hw | calib hw => rw [hw]; decide +kernel

/-! ## Exactly one row -/

theorem decode_eq_ok_iff_row (w : Word) :
    (∃ i, decode (Command.plain w) = .ok i) ↔ ∃ r ∈ opcodeRows, r.covers w = true := by
  refine ⟨fun ⟨i, h⟩ => (carries_of_decode h).exists_row, fun ⟨r, hr, hw⟩ => ?_⟩
  obtain ⟨q, hq, hqw⟩ := exists_classRow_of_covers hr hw
  exact decode_of_covers_classRow hq hqw

/-- The rows are pairwise disjoint, so at most one holds a word. -/
theorem length_filter_covers_le_one (w : Word) : (opcodeRows.filter (fun r => r.covers w)).length ≤ 1 := by
  have disjoint : opcodeRows.Pairwise (fun r q => r.disjoint q = true) := by decide +kernel
  have filtered := disjoint.filter (fun r => r.covers w)
  by_contra! long
  have first_second := List.pairwise_iff_getElem.mp filtered 0 1 (by omega) long (by omega)
  have first := (List.mem_filter.mp (List.getElem_mem (Nat.zero_lt_of_lt long))).2
  have second := (List.mem_filter.mp (List.getElem_mem long)).2
  rw [OpcodeRow.not_covers_of_disjoint first_second first] at second
  cases second

theorem filter_covers_eq_nil_iff (w : Word) :
    opcodeRows.filter (fun r => r.covers w) = [] ↔ ¬∃ r ∈ opcodeRows, r.covers w = true := by
  rw [List.filter_eq_nil_iff]
  simp only [not_exists, not_and]

/-- Settles O3. -/
theorem validWordsAreExactlyTheTableRows : Obligations.ValidWordsAreExactlyTheTableRows := by
  refine ⟨fun w => ?_, fun w => ?_⟩
  · have atMostOne := length_filter_covers_le_one w
    rw [decode_eq_ok_iff_row, ← not_iff_not, ← filter_covers_eq_nil_iff, ← List.length_eq_zero_iff]
    omega
  · rw [filter_covers_eq_nil_iff, ← decode_eq_ok_iff_row]
    cases decode (Command.plain w) <;> simp

end Sys2Proof
end

section
/-! PROOFS. The operations by kind: what a WR and a RD of any offset do, what a register write can change, and what a step is. -/

namespace Sys2Proof.Machine

open Sys2Proof.Claims

/-! ## WR and RD by offset -/

theorem writeTarget_of_le {o : Byte} (h : 0x19 ≤ o.toNat) : writeTarget o = .unmapped := by
  rw [writeTarget, if_neg (by omega)]
  split <;> first | omega | rfl

theorem busWrite_of_le {o : Byte} (h : 0x19 ≤ o.toNat) (b : Byte) (s : State) : busWrite o b s = latchBus b s := by
  rw [busWrite, writeTarget_of_le h]

/-- R291: the decoder's choice of operation and the dispatch by offset agree. -/
theorem exec_decodeWr (o b : Byte) (s : State) : exec (decodeWr o b) s = done (busWrite o b s) := by
  obtain mapped | unmapped : o.toNat < 0x1A ∨ 0x1A ≤ o.toNat := by omega
  · obtain ⟨n, hn, rfl⟩ := exists_offset_of_lt mapped
    interval_cases n <;> rfl
  · rw [decodeWr_of_le unmapped, busWrite_of_le (by omega)]
    split_ifs <;> rfl

theorem readSource_of_lt_or_lt {o : Byte} (h : o.toNat < 0x19 ∨ 0x1C < o.toNat) : readSource o = .bus := by
  unfold readSource
  split <;> first | omega | rfl

theorem busRead_of_lt_or_lt {o : Byte} (h : o.toNat < 0x19 ∨ 0x1C < o.toNat) (s : State) : busRead o s = s.chip.busValue := by
  rw [busRead, readSource_of_lt_or_lt h]

/-- R295: the decoder's choice of operation and the sources of the read registers agree. -/
theorem exec_decodeRd (o : Byte) (s : State) : exec (decodeRd o) s = answerByte (busRead o s) s := by
  obtain ranges | single : (o.toNat < 0x18 ∨ 0x1D < o.toNat) ∨ (o.toNat < 0x1E ∧ 0x18 ≤ o.toNat) := by omega
  · rw [decodeRd_of_lt_or_lt ranges, busRead_of_lt_or_lt (by omega)]
    split_ifs <;> rfl
  · obtain ⟨below, above⟩ := single
    obtain ⟨n, hn, rfl⟩ := exists_offset_of_lt below
    have low : 0x18 ≤ n := by rw [BitVec.toNat_ofNat] at above; omega
    interval_cases n <;> rfl

theorem exec_mute (v : VoiceIdx) (flag : Bool) (s : State) : exec (mute v flag) s = done (setMute v flag s) := by
  cases v <;> rfl

/-! ## What a register write can change -/

/-- The state after a WR of byte b, by what the register belongs to: frequency or pulse width of an oscillator, CONTROL, the nibbles of
an envelope, the filter, or nothing but the bus. -/
inductive Written (b : Byte) (s : State) : State → Prop
  | osc (v : VoiceIdx) (f : Osc → Osc) (hf : ∀ o, f o = { o with freq := (f o).freq, pulseWidth := (f o).pulseWidth }) :
      Written b s (modifyOsc v f (latchBus b s))
  | control (v : VoiceIdx) : Written b s (busControl v b s)
  | attackDecay (v : VoiceIdx) : Written b s (busAttackDecay v b s)
  | sustainRelease (v : VoiceIdx) : Written b s (busSustainRelease v b s)
  | filt (f : Filt → Filt) : Written b s (modifyFilt f (latchBus b s))
  | unmapped : Written b s (latchBus b s)

theorem busWrite_written (o b : Byte) (s : State) : Written b s (busWrite o b s) := by
  unfold busWrite
  cases writeTarget o with
  | freqLo v => exact .osc v (Osc.writeFreqLo b) fun _ => rfl
  | freqHi v => exact .osc v (Osc.writeFreqHi b) fun _ => rfl
  | pwLo v => exact .osc v (Osc.writePwLo b) fun _ => rfl
  | pwHi v => exact .osc v (Osc.writePwHi b) fun _ => rfl
  | control v => exact .control v
  | attackDecay v => exact .attackDecay v
  | sustainRelease v => exact .sustainRelease v
  | fcLo => exact .filt (Filt.writeFcLo b)
  | fcHi => exact .filt (Filt.writeFcHi b)
  | resFilt => exact .filt (Filt.writeResFilt b)
  | modeVol => exact .filt (Filt.writeModeVol b)
  | unmapped => exact .unmapped

/-! ## The step -/

theorem variantRefusal_of_clear {cfg : Cfg} (hnoise : cfg.patchedNoise = false) (hfilter : cfg.patchedFilter = false) :
    variantRefusal cfg = none := by rw [variantRefusal, hnoise, hfilter]; rfl

theorem step_of_nil {s : State} (hv : variantRefusal s.cfg = none) (hp : s.pending = []) : step s = .next s := by
  simp only [step, stepOnce, hv, fetch, hp]

theorem step_of_cons {s : State} {c : Command} {rest : List Command} (hv : variantRefusal s.cfg = none)
    (hp : s.pending = c :: rest) : step s = applyCommand c (s.setPending rest) := by
  simp only [step, stepOnce, hv, fetch, hp]

theorem applyCommand_of_ok {c : Command} {i : Instr} (h : decode c = .ok i) (s : State) : applyCommand c s = exec i s := by
  simp only [applyCommand, h]

theorem applyCommand_of_error {c : Command} {e : DecodeError} (h : decode c = .error e) (s : State) :
    applyCommand c s = .refused (.invalidWord e) := by
  simp only [applyCommand, h]

/-- A step that has a next state idled or ran one operation on the state without its command. -/
theorem step_eq_next {s t : State} (h : step s = .next t) :
    t = s ∨ ∃ rest i, exec i (s.setPending rest) = .next t := by
  unfold step stepOnce at h
  split at h
  · cases h
  · split at h
    next c s1 hfetch =>
      unfold fetch at hfetch
      split at hfetch
      · cases hfetch
      next rest hp =>
        cases hfetch
        cases hdecode : decode c with
        | ok i => exact .inr ⟨rest, i, by rwa [applyCommand_of_ok hdecode] at h⟩
        | error e => rw [applyCommand_of_error hdecode] at h; cases h
    next => cases h; exact .inl rfl

end Sys2Proof.Machine
end

section
/-! PROOFS. The passing of cycles: the aging of the bus value in closed form (46_chip_assembly.md R301, R303), and what n cycles do to a
state, however they are clocked (CLK, CLKN, the four strategies of RENDER). -/

namespace Sys2Proof.Machine

open Sys2Proof.Claims

/-! ## The bus value -/

theorem Chip.eq_of_fields {c d : Chip} (hvalue : c.busValue = d.busValue) (httl : c.busValueTtl = d.busValueTtl)
    (hext : c.externalInput = d.externalInput) (hmodel : c.chipModel = d.chipModel) : c = d := by
  cases c; cases d
  cases hvalue; cases httl; cases hext; cases hmodel
  rfl

theorem chipInv_iff {c : Chip} :
    chipInv c = true ↔ c.busValueTtl.toNat ≤ 0x2000 ∧ (c.busValueTtl.toNat = 0 → c.busValue = 0) := by
  have zero : c.busValueTtl = 0 ↔ c.busValueTtl.toNat = 0 := BitVec.toNat_inj.symm
  have below : c.busValueTtl ≤ 0x2000 ↔ c.busValueTtl.toNat ≤ 0x2000 := BitVec.le_def
  simp only [chipInv, Bool.and_eq_true, Bool.or_eq_true, decide_eq_true_eq, ne_eq, zero, below, ← imp_iff_not_or]

@[simp] theorem Chip.age_externalInput (c : Chip) : c.age.externalInput = c.externalInput := by
  unfold Chip.age
  split_ifs <;> rfl

@[simp] theorem Chip.age_chipModel (c : Chip) : c.age.chipModel = c.chipModel := by
  unfold Chip.age
  split_ifs <;> rfl

theorem Chip.toNat_age_busValueTtl (c : Chip) : c.age.busValueTtl.toNat = c.busValueTtl.toNat - 1 := by
  unfold Chip.age
  split_ifs with zero one
  · rw [zero]; rfl
  · show (0 : BitVec 16).toNat = _
    bv_omega
  · show (c.busValueTtl - 1).toNat = _
    bv_omega

theorem Chip.age_busValue (c : Chip) : c.age.busValue = if c.busValueTtl.toNat = 1 then 0 else c.busValue := by
  unfold Chip.age
  split_ifs with zero one
  all_goals first | rfl | (exfalso; bv_omega)

/-- n cycles of aging, as long as the window is open (R301). -/
theorem Chip.toNat_age_iterate_busValueTtl (n : Nat) (c : Chip) :
    (Chip.age^[n] c).busValueTtl.toNat = c.busValueTtl.toNat - n := by
  induction n with
  | zero => rfl
  | succ n ih => rw [Function.iterate_succ_apply', Chip.toNat_age_busValueTtl, ih, Nat.sub_sub]

/-- The bus value is cleared in the cycle that closes the window (R301). -/
theorem Chip.age_iterate_busValue (n : Nat) (c : Chip) :
    (Chip.age^[n] c).busValue = if 1 ≤ c.busValueTtl.toNat ∧ c.busValueTtl.toNat ≤ n then 0 else c.busValue := by
  induction n with
  | zero => rw [if_neg (by omega)]; rfl
  | succ n ih =>
    rw [Function.iterate_succ_apply', Chip.age_busValue, Chip.toNat_age_iterate_busValueTtl, ih]
    split_ifs <;> first | rfl | omega

theorem Chip.age_iterate_externalInput (n : Nat) (c : Chip) : (Chip.age^[n] c).externalInput = c.externalInput := by
  induction n with
  | zero => rfl
  | succ n ih => rw [Function.iterate_succ_apply', Chip.age_externalInput, ih]

theorem Chip.age_iterate_chipModel (n : Nat) (c : Chip) : (Chip.age^[n] c).chipModel = c.chipModel := by
  induction n with
  | zero => rfl
  | succ n ih => rw [Function.iterate_succ_apply', Chip.age_chipModel, ih]

theorem Chip.toNat_ageBy_busValueTtl (n : Nat) (c : Chip) : (c.ageBy n).busValueTtl.toNat = c.busValueTtl.toNat - n := by
  have bound := c.busValueTtl.isLt
  exact Nat.mod_eq_of_lt (by omega)

theorem Chip.ageBy_busValue (n : Nat) (c : Chip) :
    (c.ageBy n).busValue = if c.busValueTtl.toNat ≤ n then 0 else c.busValue := by
  have closed : (c.ageBy n).busValueTtl = 0 ↔ c.busValueTtl.toNat ≤ n := by
    rw [← BitVec.toNat_inj, Chip.toNat_ageBy_busValueTtl]
    exact Nat.sub_eq_zero_iff_le
  show (if (c.ageBy n).busValueTtl = 0 then 0 else c.busValue) = _
  simp only [closed]

/-- R303 corner case a: aging at once is aging cycle by cycle, where a closed window holds no value. -/
theorem Chip.ageBy_eq_iterate {c : Chip} (h : chipInv c = true) (n : Nat) : c.ageBy n = Chip.age^[n] c := by
  obtain ⟨-, closed⟩ := chipInv_iff.mp h
  refine Chip.eq_of_fields ?_ ?_ (c.age_iterate_externalInput n).symm (c.age_iterate_chipModel n).symm
  · rw [Chip.ageBy_busValue, Chip.age_iterate_busValue]
    split_ifs with below open_ open_
    · rfl
    · exact (closed (by omega)).symm
    · omega
    · rfl
  · apply BitVec.eq_of_toNat_eq
    rw [Chip.toNat_ageBy_busValueTtl, Chip.toNat_age_iterate_busValueTtl]

theorem chipInv_age_iterate {c : Chip} (h : chipInv c = true) (n : Nat) : chipInv (Chip.age^[n] c) = true := by
  obtain ⟨small, closed⟩ := chipInv_iff.mp h
  rw [chipInv_iff, Chip.toNat_age_iterate_busValueTtl, Chip.age_iterate_busValue]
  refine ⟨by omega, fun hn => ?_⟩
  split_ifs
  · rfl
  · exact closed (by omega)

/-! ## The frames of the analog steps -/

/-- g is f but for the fields that a clocked cycle writes (R44). -/
def Filt.Framed (f g : Filt) : Prop :=
  g = { f with
    highpassState := g.highpassState, bandpassState := g.bandpassState, lowpassState := g.lowpassState,
    unfilteredSum := g.unfilteredSum }

/-- y is x but for the fields that a clocked cycle writes (R45). -/
def Extf.Framed (x y : Extf) : Prop :=
  y = { x with lowpassState := y.lowpassState, highpassState := y.highpassState, out := y.out }

/-- d is c but for the bus value and its time-to-live (R46). -/
def Chip.Framed (c d : Chip) : Prop := d = { c with busValue := d.busValue, busValueTtl := d.busValueTtl }

/-- q is r but for the phase, the previous sample, the ring and its index (R47). -/
def Resampler.Framed (r q : Resampler) : Prop :=
  q = { r with
    sampleOffset := q.sampleOffset, samplePrev := q.samplePrev, sampleHistory := q.sampleHistory, sampleIndex := q.sampleIndex }

theorem Filt.Framed.trans {f g h : Filt} (hfg : f.Framed g) (hgh : g.Framed h) : f.Framed h := by
  unfold Filt.Framed at *
  rw [hgh, hfg]

theorem Extf.Framed.trans {x y z : Extf} (hxy : x.Framed y) (hyz : y.Framed z) : x.Framed z := by
  unfold Extf.Framed at *
  rw [hyz, hxy]

theorem Chip.Framed.trans {c d e : Chip} (hcd : c.Framed d) (hde : d.Framed e) : c.Framed e := by
  unfold Chip.Framed at *
  rw [hde, hcd]

theorem Resampler.Framed.trans {r q p : Resampler} (hrq : r.Framed q) (hqp : q.Framed p) : r.Framed p := by
  unfold Resampler.Framed at *
  rw [hqp, hrq]

theorem Filt.integrate_framed (order : FilterOrder) (w : S32) (shift : Nat) (q vi : S32) (f : Filt) :
    f.Framed (f.integrate order w shift q vi) := by cases order <;> rfl

theorem storeUnfiltered_framed (s : State) : s.filt.Framed (storeUnfiltered s) := rfl

theorem filterOne_framed (s : State) : s.filt.Framed (filterOne s).filt :=
  (storeUnfiltered_framed s).trans (Filt.integrate_framed ..)

theorem filterBulk_framed (d : Nat) (s : State) : s.filt.Framed (filterBulk d s).filt :=
  subSteps_keeps s.filt.Framed (fun _ _ h => h.trans (Filt.integrate_framed ..)) d d _ (storeUnfiltered_framed s)

theorem Extf.bulkStep_framed (cfg : Cfg) (vi : S32) (k : Nat) (x : Extf) : x.Framed (x.bulkStep cfg vi k) := rfl

theorem outputOne_framed (s : State) : s.extf.Framed (outputOne s).extf := by
  show s.extf.Framed (if _ then _ else _)
  split_ifs <;> rfl

theorem outputBulk_framed (d : Nat) (s : State) : s.extf.Framed (outputBulk d s).extf := by
  show s.extf.Framed (if _ then _ else _)
  split_ifs
  · exact subSteps_keeps s.extf.Framed (fun _ _ h => h.trans (Extf.bulkStep_framed ..)) d d _ rfl
  · rfl

theorem Chip.age_framed (c : Chip) : c.Framed c.age :=
  Chip.eq_of_fields rfl rfl c.age_externalInput c.age_chipModel

/-! ## n cycles -/

/-- The ring is in its canonical form and the write position inside it (R47, R354). -/
def ringOk (cfg : Cfg) (rs : Resampler) : Prop :=
  historyWf cfg.ringSize rs.sampleHistory = true ∧ rs.sampleIndex < cfg.ringSize

/-- t is s after n cycles, however they were clocked: oscillators, envelopes and bus value n cycles on, and nothing else changed but
filter and output states and the resampler's working fields. Where the bus value meets its invariant, aging at once is aging cycle by cycle. -/
structure Elapsed (n : Nat) (s t : State) : Prop extends ClockedBy n s t where
  osc : t.osc = clockOscillators^[n] s.osc
  aged : chipInv s.chip = true → t.chip = Chip.age^[n] s.chip
  chip : s.chip.Framed t.chip
  filt : s.filt.Framed t.filt
  extf : s.extf.Framed t.extf
  rs : s.rs.Framed t.rs
  ring : ringOk s.cfg s.rs → ringOk s.cfg t.rs
  muted : t.muted = s.muted
  calib : t.calib = s.calib
  installs : t.installs = s.installs
  pending : t.pending = s.pending

theorem Elapsed.refl (s : State) : Elapsed 0 s s where
  toClockedBy := .refl s
  osc := rfl
  aged _ := rfl
  chip := rfl
  filt := rfl
  extf := rfl
  rs := rfl
  ring h := h
  muted := rfl
  calib := rfl
  installs := rfl
  pending := rfl

theorem Elapsed.trans {m n : Nat} {s t u : State} (h : Elapsed m s t) (k : Elapsed n t u) : Elapsed (m + n) s u where
  toClockedBy := h.toClockedBy.trans k.toClockedBy
  osc := by rw [k.osc, h.osc, Nat.add_comm, Function.iterate_add_apply]
  aged inv := by
    have halfway := h.aged inv
    rw [k.aged (halfway ▸ chipInv_age_iterate inv m), halfway, Nat.add_comm, Function.iterate_add_apply]
  chip := h.chip.trans k.chip
  filt := h.filt.trans k.filt
  extf := h.extf.trans k.extf
  rs := h.rs.trans k.rs
  ring ok := h.cfg ▸ k.ring (h.cfg.symm ▸ h.ring ok)
  muted := k.muted.trans h.muted
  calib := k.calib.trans h.calib
  installs := k.installs.trans h.installs
  pending := k.pending.trans h.pending

/-- A step of one cycle, iterated. -/
theorem Elapsed.iterate {f : State → State} (hf : ∀ s, Elapsed 1 s (f s)) (n : Nat) (s : State) : Elapsed n s (f^[n] s) := by
  induction n with
  | zero => exact .refl s
  | succ n ih =>
    rw [Function.iterate_succ_apply']
    exact ih.trans (hf _)

theorem clockOne_elapsed (s : State) : Elapsed 1 s (clockOne s) where
  toClockedBy := clockOne_clockedBy s
  osc := rfl
  aged _ := rfl
  chip := s.chip.age_framed
  filt := filterOne_framed (clockVoices (ageBus s))
  extf := outputOne_framed (filterOne (clockVoices (ageBus s)))
  rs := rfl
  ring ok := ok
  muted := rfl
  calib := rfl
  installs := rfl
  pending := rfl

/-- The voices' share of n cycles. -/
theorem clockVoices_iterate (n : Nat) (s : State) :
    clockVoices^[n] s = { s with osc := clockOscillators^[n] s.osc, env := (clockEnvelopes s.cfg)^[n] s.env } := by
  induction n with
  | zero => rfl
  | succ n ih =>
    rw [Function.iterate_succ_apply', ih, Function.iterate_succ_apply', Function.iterate_succ_apply']
    rfl

theorem clockN_of_pos {d : Nat} (h : 0 < d) (s : State) :
    clockN d s = outputBulk d (filterBulk d { s with
      chip := s.chip.ageBy d, osc := clockOscillators^[d] s.osc, env := (clockEnvelopes s.cfg)^[d] s.env }) := by
  rw [clockN, if_neg h.ne', clockVoices_iterate]
  rfl

theorem clockN_elapsed (d : Nat) (s : State) : Elapsed d s (clockN d s) := by
  obtain rfl | pos := Nat.eq_zero_or_pos d
  · exact .refl s
  · rw [clockN_of_pos pos]
    exact {
      toClockedBy := ⟨rfl, rfl, rfl, rfl⟩
      osc := rfl
      aged := fun inv => Chip.ageBy_eq_iterate inv d
      chip := rfl
      filt := filterBulk_framed d { s with
        chip := s.chip.ageBy d, osc := clockOscillators^[d] s.osc, env := (clockEnvelopes s.cfg)^[d] s.env }
      extf := outputBulk_framed d (filterBulk d { s with
        chip := s.chip.ageBy d, osc := clockOscillators^[d] s.osc, env := (clockEnvelopes s.cfg)^[d] s.env })
      rs := rfl
      ring := fun ok => ok
      muted := rfl
      calib := rfl
      installs := rfl
      pending := rfl }

/-- The resampler's working fields may change beside the cycles. -/
theorem Elapsed.setRs {n : Nat} {s t : State} (h : Elapsed n s t) {rs : Resampler} (framed : t.rs.Framed rs)
    (ring : ringOk s.cfg t.rs → ringOk s.cfg rs) : Elapsed n s (t.setRs rs) where
  toClockedBy :=
    ⟨h.cfg, h.env, (congrArg Resampler.strategy framed).trans h.strategy,
      (congrArg Resampler.cyclesPerSample framed).trans h.ratio⟩
  osc := h.osc
  aged := h.aged
  chip := h.chip
  filt := h.filt
  extf := h.extf
  rs := h.rs.trans framed
  ring ok := ring (h.ring ok)
  muted := h.muted
  calib := h.calib
  installs := h.installs
  pending := h.pending

/-- The result is no part of what a cycle changes. -/
theorem Elapsed.setResult {n : Nat} {s t : State} (h : Elapsed n s t) (r : Result) : Elapsed n s (t.setResult r) where
  toClockedBy := ⟨h.cfg, h.env, h.strategy, h.ratio⟩
  osc := h.osc
  aged := h.aged
  chip := h.chip
  filt := h.filt
  extf := h.extf
  rs := h.rs
  ring := h.ring
  muted := h.muted
  calib := h.calib
  installs := h.installs
  pending := h.pending

theorem pushSample_elapsed (s : State) : Elapsed 1 s (pushSample s) :=
  (clockOne_elapsed s).setRs rfl fun ⟨wf, inside⟩ =>
    ⟨historyWrite_wf _ inside wf, Nat.mod_lt _ (Nat.zero_lt_of_lt inside)⟩

theorem clockKeepingPrev_elapsed (n : Nat) (s : State) : Elapsed n s (clockKeepingPrev n s) := by
  cases n with
  | zero => exact .refl s
  | succ k =>
    have before : Elapsed k s (clockOne^[k] s) := .iterate clockOne_elapsed k s
    have kept : (clockOne^[k] s).rs.Framed { (clockOne^[k] s).rs with samplePrev := rawOutput (clockOne^[k] s) } := rfl
    exact (before.setRs kept id).trans (clockOne_elapsed _)

theorem advanceCycles_elapsed (strategy : Strategy) (n : Nat) (s : State) : Elapsed n s (advanceCycles strategy n s) := by
  cases strategy with
  | fast => exact clockN_elapsed n s
  | interpolate => exact clockKeepingPrev_elapsed n s
  | resampleInterpolate | resampleFast => exact .iterate pushSample_elapsed n s

/-! ## CLK n times -/

/-- The state after a CLK. -/
def clkState (s : State) : State := (clockOne s).setResult .none

theorem exec_clk_eq_clkState (s : State) : exec .clk s = .next (clkState s) := rfl

theorem clkTimes_eq (n : Nat) (s : State) : clkTimes n s = .next (clkState^[n] s) := by
  induction n generalizing s with
  | zero => rfl
  | succ n ih =>
    rw [clkTimes, exec_clk_eq_clkState]
    exact ih (clkState s)

theorem clkState_iterate_elapsed (n : Nat) (s : State) : Elapsed n s (clkState^[n] s) :=
  .iterate (fun s => (clockOne_elapsed s).setResult .none) n s

theorem digital_eq {s t : State} (hchip : s.chip = t.chip) (hosc : s.osc = t.osc) (henv : s.env = t.env) :
    digital s = digital t := by
  rw [digital, digital, hchip, hosc, henv]

/-- States the same number of cycles on agree in their digital part. -/
theorem Elapsed.digital_eq {n : Nat} {s t u : State} (ht : Elapsed n s t) (hu : Elapsed n s u) (h : chipInv s.chip = true) :
    digital t = digital u :=
  Machine.digital_eq ((ht.aged h).trans (hu.aged h).symm) (ht.osc.trans hu.osc.symm) (ht.env.trans hu.env.symm)

end Sys2Proof.Machine
end

section
/-! PROOFS. The loop of RENDER (47_resampler.md R345, R355, R356): its branches, the frame of any RENDER, and under the invariant the exact
account of cycles and phase and the number of samples. -/

namespace Sys2Proof.Machine

open Sys2Proof.Claims

/-! ## The branches of the loop -/

/-- The whole cycles to the next sample under the strategy in force. -/
def cyclesDue (s : State) : Int := cyclesToSample s.rs.strategy s.rs

/-- The sample of this iteration. -/
def renderedSample (s : State) : S16 := (produceSample s.rs.strategy (clockToSample s.rs.strategy s)).1

/-- One more sample in front. -/
def Rendered.cons (y : S16) (r : Rendered) : Rendered := { r with samples := y :: r.samples }

theorem renderLoop_of_lt {d : Nat} {s : State} (h : (d : Int) < cyclesDue s) (room : Nat) :
    renderLoop s.rs.strategy room d s = renderTail s.rs.strategy d s := by
  unfold renderLoop
  exact if_pos h

theorem renderLoop_zero {d : Nat} {s : State} (h : cyclesDue s ≤ d) :
    renderLoop s.rs.strategy 0 d s = { state := s, samples := [], rem := d } := by
  unfold renderLoop
  exact if_neg (not_lt.mpr h)

theorem renderLoop_succ {d : Nat} {s : State} (h : cyclesDue s ≤ d) (room : Nat) :
    renderLoop s.rs.strategy (room + 1) d s =
      (renderLoop (renderSample s).rs.strategy room ((d : Int) - cyclesDue s).toNat (renderSample s)).cons (renderedSample s) := by
  rw [(renderSample_clockedBy s).strategy]
  conv_lhs => unfold renderLoop
  exact if_neg (not_lt.mpr h)

theorem renderTail_of_keeps {s : State} (h : s.cfg.renderKeepsRemainder = true) (strategy : Strategy) (d : Nat) :
    renderTail strategy d s = { state := s, samples := [], rem := d } := by
  rw [renderTail, if_pos h]

/-- The tail's state where the cycles left are clocked: they go off the phase. -/
def tailState (strategy : Strategy) (d : Nat) (s : State) : State :=
  let s1 := advanceCycles strategy d s
  s1.setRs { s1.rs with sampleOffset := s1.rs.sampleOffset - BitVec.ofNat 32 (d * 65536) }

theorem renderTail_of_drops {s : State} (h : s.cfg.renderKeepsRemainder = false) (strategy : Strategy) (d : Nat) :
    renderTail strategy d s = { state := tailState strategy d s, samples := [], rem := 0 } := by
  rw [renderTail, h, if_neg Bool.false_ne_true]
  rfl

/-! ## What any RENDER leaves alone -/

theorem tailState_elapsed (strategy : Strategy) (d : Nat) (s : State) : Elapsed d s (tailState strategy d s) :=
  (advanceCycles_elapsed strategy d s).setRs rfl id

theorem clockToSample_elapsed (strategy : Strategy) (s : State) :
    Elapsed (cyclesToSample strategy s.rs).toNat s (clockToSample strategy s) :=
  (advanceCycles_elapsed strategy _ s).setRs rfl id

/-- Forming a sample clocks nothing. -/
theorem produceSample_elapsed (strategy : Strategy) (s : State) : Elapsed 0 s (produceSample strategy s).2 := by
  cases strategy with
  | interpolate => exact (Elapsed.refl s).setRs rfl id
  | fast | resampleInterpolate | resampleFast => exact .refl s

theorem renderSample_elapsed (s : State) : Elapsed (cyclesDue s).toNat s (renderSample s) :=
  (clockToSample_elapsed s.rs.strategy s).trans (produceSample_elapsed s.rs.strategy _)

/-- R355 in every state: at most `room` samples, cycles left over only where the buffer is full (or under `RENDER_KEEPS_REMAINDER`), and a
frame, some number of cycles on. -/
structure Bounded (room : Nat) (s : State) (r : Rendered) : Prop where
  length : r.samples.length ≤ room
  drained : r.samples.length < room → s.cfg.renderKeepsRemainder = false → r.rem = 0
  elapsed : ∃ n, Elapsed n s r.state

theorem renderTail_bounded (room d : Nat) (s : State) : Bounded room s (renderTail s.rs.strategy d s) := by
  cases h : s.cfg.renderKeepsRemainder with
  | true =>
    rw [renderTail_of_keeps h]
    exact ⟨Nat.zero_le room, fun _ drops => absurd (h.symm.trans drops) (by decide), 0, .refl s⟩
  | false =>
    rw [renderTail_of_drops h]
    exact ⟨Nat.zero_le room, fun _ _ => rfl, d, tailState_elapsed s.rs.strategy d s⟩

theorem renderLoop_bounded (room d : Nat) (s : State) : Bounded room s (renderLoop s.rs.strategy room d s) := by
  induction room generalizing d s with
  | zero =>
    obtain late | due := lt_or_ge (d : Int) (cyclesDue s)
    · rw [renderLoop_of_lt late]
      exact renderTail_bounded 0 d s
    · rw [renderLoop_zero due]
      exact ⟨le_rfl, fun h => absurd h (Nat.lt_irrefl 0), 0, .refl s⟩
  | succ room ih =>
    obtain late | due := lt_or_ge (d : Int) (cyclesDue s)
    · rw [renderLoop_of_lt late]
      exact renderTail_bounded (room + 1) d s
    · rw [renderLoop_succ due]
      have sample := renderSample_elapsed s
      obtain ⟨hlength, hdrained, n, hrest⟩ := ih ((d : Int) - cyclesDue s).toNat (renderSample s)
      exact ⟨Nat.succ_le_succ hlength, fun room_left drops => hdrained (Nat.lt_of_succ_lt_succ room_left) (sample.cfg ▸ drops),
        _, sample.trans hrest⟩

/-! ## The phase under the invariant -/

theorem clockN_rs (d : Nat) (s : State) : (clockN d s).rs = s.rs := by
  obtain rfl | pos := Nat.eq_zero_or_pos d
  · rfl
  · rw [clockN_of_pos pos]; rfl

theorem clockOne_iterate_rs (n : Nat) (s : State) : (clockOne^[n] s).rs = s.rs := by
  induction n with
  | zero => rfl
  | succ n ih => rw [Function.iterate_succ_apply']; exact ih

theorem pushSample_iterate_sampleOffset (n : Nat) (s : State) : (pushSample^[n] s).rs.sampleOffset = s.rs.sampleOffset := by
  induction n with
  | zero => rfl
  | succ n ih => rw [Function.iterate_succ_apply']; exact ih

theorem clockKeepingPrev_sampleOffset (n : Nat) (s : State) : (clockKeepingPrev n s).rs.sampleOffset = s.rs.sampleOffset := by
  cases n with
  | zero => rfl
  | succ k => exact (congrArg Resampler.sampleOffset (clockOne_iterate_rs k s) :)

/-- Clocking leaves the phase to the loop and the tail. -/
theorem advanceCycles_sampleOffset (strategy : Strategy) (n : Nat) (s : State) :
    (advanceCycles strategy n s).rs.sampleOffset = s.rs.sampleOffset := by
  cases strategy with
  | fast => exact congrArg Resampler.sampleOffset (clockN_rs n s)
  | interpolate => exact clockKeepingPrev_sampleOffset n s
  | resampleInterpolate | resampleFast => exact pushSample_iterate_sampleOffset n s

theorem cyclesDue_eq {s : State} (hr : ratioInv s.rs = true) (hp : phaseInv s.rs = true) :
    cyclesDue s =
      (s.rs.sampleOffset.toInt + s.rs.cyclesPerSample.toInt + (phaseBias s.rs.strategy).toInt) / 65536 := by
  rw [cyclesDue, cyclesToSample, toInt_asr, toInt_nextPhase hr hp]
  rfl

theorem renderSample_sampleOffset (s : State) :
    (renderSample s).rs.sampleOffset = (nextPhase s.rs.strategy s.rs &&& 0xFFFF) - phaseBias s.rs.strategy :=
  produceSample_sampleOffset s.rs.strategy _

/-- R345: an iteration moves the phase on by one ratio, less the cycles it clocked. -/
theorem toInt_renderSample_sampleOffset {s : State} (hr : ratioInv s.rs = true) (hp : phaseInv s.rs = true) :
    (renderSample s).rs.sampleOffset.toInt =
      s.rs.sampleOffset.toInt + s.rs.cyclesPerSample.toInt - 65536 * cyclesDue s := by
  have next := toInt_nextPhase hr hp
  have nonneg := (phaseInv_iff.mp hp).1
  have next_nat : ((nextPhase s.rs.strategy s.rs).toNat : Int) = (nextPhase s.rs.strategy s.rs).toInt := by
    have wide := BitVec.toInt_eq_toNat_cond (nextPhase s.rs.strategy s.rs)
    split_ifs at wide <;> omega
  rw [renderSample_sampleOffset, toInt_lowBits_sub_phaseBias, next_nat, next, cyclesDue_eq hr hp]
  omega

theorem tailState_sampleOffset (strategy : Strategy) (d : Nat) (s : State) :
    (tailState strategy d s).rs.sampleOffset = s.rs.sampleOffset - BitVec.ofNat 32 (d * 65536) :=
  congrArg (· - BitVec.ofNat 32 (d * 65536)) (advanceCycles_sampleOffset strategy d s)

/-- The tail takes the cycles it clocks off the phase, without wrap where they do not reach the next sample. -/
theorem toInt_tailState_sampleOffset {s : State} (hr : ratioInv s.rs = true) (hp : phaseInv s.rs = true) {d : Nat}
    (late : (d : Int) < cyclesDue s) :
    (tailState s.rs.strategy d s).rs.sampleOffset.toInt = s.rs.sampleOffset.toInt - 65536 * d := by
  have bias := toInt_phaseBias s.rs.strategy
  rw [cyclesDue_eq hr hp] at late
  rw [ratioInv_iff] at hr
  rw [phaseInv_iff] at hp
  have cycles : (BitVec.ofNat 32 (d * 65536)).toInt = d * 65536 := by
    rw [BitVec.toInt_ofNat', Int.bmod_eq_of_le (by omega) (by omega), Nat.cast_mul]
    rfl
  rw [tailState_sampleOffset, BitVec.toInt_sub, cycles, Int.bmod_eq_of_le (by omega) (by omega)]
  omega

/-! ## The account of cycles (R355 corner case a) -/

/-- From s with d cycles offered, r clocked all of them but `rem`, and its phase accounts for each cycle and each sample. -/
structure Accounted (d : Nat) (s : State) (r : Rendered) : Prop where
  rem_le : r.rem ≤ d
  elapsed : Elapsed (d - r.rem) s r.state
  phase : r.state.rs.sampleOffset.toInt =
    s.rs.sampleOffset.toInt + r.samples.length * s.rs.cyclesPerSample.toInt - 65536 * ((d : Int) - r.rem)
  sound : phaseInv r.state.rs = true

theorem accounted_refl {s : State} (hp : phaseInv s.rs = true) (d : Nat) :
    Accounted d s { state := s, samples := [], rem := d } where
  rem_le := le_rfl
  elapsed := by rw [Nat.sub_self]; exact .refl s
  phase := by simp
  sound := hp

theorem renderTail_accounted {s : State} (hr : ratioInv s.rs = true) (hp : phaseInv s.rs = true) {d : Nat}
    (late : (d : Int) < cyclesDue s) : Accounted d s (renderTail s.rs.strategy d s) := by
  cases h : s.cfg.renderKeepsRemainder with
  | true => rw [renderTail_of_keeps h]; exact accounted_refl hp d
  | false =>
    rw [renderTail_of_drops h]
    have elapsed := tailState_elapsed s.rs.strategy d s
    have offset := toInt_tailState_sampleOffset hr hp late
    refine ⟨Nat.zero_le d, elapsed, by simpa using offset, ?_⟩
    rw [cyclesDue_eq hr hp] at late
    rw [phaseInv_iff] at hp ⊢
    rw [offset, elapsed.strategy, elapsed.ratio]
    omega

theorem Accounted.cons {d : Nat} {s : State} (hr : ratioInv s.rs = true) (hp : phaseInv s.rs = true) (due : cyclesDue s ≤ d)
    {r : Rendered} (h : Accounted ((d : Int) - cyclesDue s).toNat (renderSample s) r) (y : S16) : Accounted d s (r.cons y) := by
  have nonneg : 0 ≤ cyclesDue s := cyclesToSample_nonneg hr hp
  have sample := renderSample_elapsed s
  have offset := toInt_renderSample_sampleOffset hr hp
  obtain ⟨rem_le, elapsed, phase, sound⟩ := h
  have cycles : d - r.rem = (cyclesDue s).toNat + (((d : Int) - cyclesDue s).toNat - r.rem) := by omega
  refine ⟨rem_le.trans (by omega), cycles ▸ sample.trans elapsed, ?_, sound⟩
  rw [sample.ratio, offset, Int.toNat_of_nonneg (by omega)] at phase
  have length : (r.cons y).samples.length = r.samples.length + 1 := rfl
  rw [length, Nat.cast_add, Nat.cast_one, add_mul, one_mul]
  exact phase.trans (by simp only [Rendered.cons]; omega)

theorem renderLoop_accounted (room : Nat) {d : Nat} {s : State} (hr : ratioInv s.rs = true) (hp : phaseInv s.rs = true) :
    Accounted d s (renderLoop s.rs.strategy room d s) := by
  induction room generalizing d s with
  | zero =>
    obtain late | due := lt_or_ge (d : Int) (cyclesDue s)
    · rw [renderLoop_of_lt late]
      exact renderTail_accounted hr hp late
    · rw [renderLoop_zero due]
      exact accounted_refl hp d
  | succ room ih =>
    obtain late | due := lt_or_ge (d : Int) (cyclesDue s)
    · rw [renderLoop_of_lt late]
      exact renderTail_accounted hr hp late
    · rw [renderLoop_succ due]
      exact .cons hr hp due (ih (renderSample_ratioInv hr) (renderSample_phaseInv hr)) _

/-! ## The number of samples (R356) -/

/-- The cycle at which the k-th sample from here is due. -/
def dueCycle (s : State) (k : Int) : Int :=
  (s.rs.sampleOffset.toInt + k * s.rs.cyclesPerSample.toInt + (phaseBias s.rs.strategy).toInt) / 65536

theorem dueCycle_one {s : State} (hr : ratioInv s.rs = true) (hp : phaseInv s.rs = true) : dueCycle s 1 = cyclesDue s := by
  rw [dueCycle, cyclesDue_eq hr hp, one_mul]

/-- After an iteration the k-th sample is the (k + 1)-th of before, less the cycles the iteration clocked. -/
theorem dueCycle_renderSample {s : State} (hr : ratioInv s.rs = true) (hp : phaseInv s.rs = true) (k : Int) :
    dueCycle (renderSample s) k = dueCycle s (k + 1) - cyclesDue s := by
  have sample := renderSample_elapsed s
  rw [dueCycle, dueCycle, sample.strategy, sample.ratio, toInt_renderSample_sampleOffset hr hp, add_mul, one_mul]
  omega

theorem renderTail_samples (strategy : Strategy) (d : Nat) (s : State) : (renderTail strategy d s).samples = [] := by
  unfold renderTail
  split_ifs <;> rfl

/-- The list ys is as long as the samples due within d cycles allow. -/
def LargestCount (d : Nat) (s : State) (ys : List S16) : Prop :=
  (ys ≠ [] → dueCycle s ys.length ≤ d) ∧ (d : Int) < dueCycle s (ys.length + 1)

theorem LargestCount.cons {d : Nat} {s : State} (hr : ratioInv s.rs = true) (hp : phaseInv s.rs = true)
    (due : cyclesDue s ≤ d) {ys : List S16} (h : LargestCount ((d : Int) - cyclesDue s).toNat (renderSample s) ys) (y : S16) :
    LargestCount d s (y :: ys) := by
  obtain ⟨last, next⟩ := h
  rw [dueCycle_renderSample hr hp] at next
  have length : ((y :: ys).length : Int) = ys.length + 1 := by simp
  refine ⟨fun _ => ?_, by rw [length]; omega⟩
  cases ys with
  | nil => rw [length, List.length_nil, Nat.cast_zero, zero_add, dueCycle_one hr hp]; exact due
  | cons z zs =>
    have before := last (List.cons_ne_nil z zs)
    rw [dueCycle_renderSample hr hp] at before
    rw [length]
    omega

theorem renderLoop_largestCount_of_lt {d : Nat} {s : State} (hr : ratioInv s.rs = true) (hp : phaseInv s.rs = true)
    (late : (d : Int) < cyclesDue s) (room : Nat) : LargestCount d s (renderLoop s.rs.strategy room d s).samples := by
  rw [renderLoop_of_lt late, renderTail_samples]
  refine ⟨fun h => absurd rfl h, ?_⟩
  rw [List.length_nil, Nat.cast_zero, zero_add, dueCycle_one hr hp]
  exact late

/-- With room for every sample due within d cycles, the loop produces exactly those. -/
theorem renderLoop_largestCount (room : Nat) {d : Nat} {s : State} (hr : ratioInv s.rs = true) (hp : phaseInv s.rs = true)
    (ample : (d : Int) < dueCycle s (room + 1)) : LargestCount d s (renderLoop s.rs.strategy room d s).samples := by
  induction room generalizing d s with
  | zero =>
    rw [Nat.cast_zero, zero_add, dueCycle_one hr hp] at ample
    exact renderLoop_largestCount_of_lt hr hp ample 0
  | succ room ih =>
    obtain late | due := lt_or_ge (d : Int) (cyclesDue s)
    · exact renderLoop_largestCount_of_lt hr hp late (room + 1)
    · rw [renderLoop_succ due]
      refine .cons hr hp due (ih (renderSample_ratioInv hr) (renderSample_phaseInv hr) ?_) _
      rw [dueCycle_renderSample hr hp]
      push_cast at ample
      omega

end Sys2Proof.Machine
end

section
/-! PROOFS. The invariant (10_state.md R52): what keeps each of its clauses, and that every step keeps all of them. -/

namespace Sys2Proof.Machine

open Sys2Proof.Claims

/-! ## The clauses of the invariant -/

/-- The invariant by component: the voices and the two models as quantifiers. -/
structure Sound (s : State) : Prop where
  cfg : s.cfg.wf = true
  osc : ∀ v, oscInv (ofVoice s.osc v) = true
  env : ∀ v, envInv s.cfg (ofVoice s.env v) = true
  chip : chipInv s.chip = true
  calib : ∀ m, calibInv s.installs (perModel s.calib m) = true
  rs : rsInv s.cfg s.rs = true

theorem inv_iff_sound {s : State} : s.inv = true ↔ Sound s := by
  unfold State.inv
  simp only [Bool.and_eq_true]
  constructor
  · rintro ⟨⟨⟨⟨⟨⟨⟨⟨⟨⟨hcfg, hosc0⟩, hosc1⟩, hosc2⟩, henv0⟩, henv1⟩, henv2⟩, hchip⟩, hcalib0⟩, hcalib1⟩, hrs⟩
    exact ⟨hcfg, fun v => by cases v <;> assumption, fun v => by cases v <;> assumption, hchip,
      fun m => by cases m <;> assumption, hrs⟩
  · intro h
    exact ⟨⟨⟨⟨⟨⟨⟨⟨⟨⟨h.cfg, h.osc .v0⟩, h.osc .v1⟩, h.osc .v2⟩, h.env .v0⟩, h.env .v1⟩, h.env .v2⟩, h.chip⟩,
      h.calib .m6581⟩, h.calib .m8580⟩, h.rs⟩

theorem oscInv_iff {o : Osc} : oscInv o = true ↔ (o.test = true → o.accumulator = 0) := by
  cases h : o.test <;> simp [oscInv, h]

theorem isExpPeriod_pos {p : Byte} (h : isExpPeriod p = true) : 0 < p := by
  revert p
  decide

theorem envInv_iff {cfg : Cfg} {e : Env} :
    envInv cfg e = true ↔ e.exponentialCounter < e.exponentialCounterPeriod ∧
      isExpPeriod e.exponentialCounterPeriod = true ∧ e.ratePeriod ∈ cfg.ratePeriod.toList := by
  simp only [envInv, Bool.and_eq_true, decide_eq_true_eq, List.contains_iff_mem, and_assoc]

theorem rsInv_iff {cfg : Cfg} {rs : Resampler} :
    rsInv cfg rs = true ↔ ratioInv rs = true ∧ phaseInv rs = true ∧ ringOk cfg rs := by
  simp only [rsInv, ringOk, Bool.and_eq_true, decide_eq_true_eq, and_assoc]

/-! ## Oscillators -/

theorem oscInv_one {o : Osc} (h : oscInv o = true) : oscInv o.one = true := by
  cases test : o.test with
  | true => rwa [Osc.one_of_test test]
  | false =>
    rw [Osc.one_of_test_clear test rfl, oscInv_iff]
    exact fun set => absurd (test.symm.trans set) (by decide)

theorem oscInv_syncedIf {o : Osc} (h : oscInv o = true) (fires : Bool) : oscInv (o.syncedIf fires) = true := by
  rw [oscInv_iff] at h ⊢
  intro test
  cases fires
  · exact h test
  · rfl

theorem ofVoice_clockOscillators (oscs : PerVoice Osc) (v : VoiceIdx) :
    ofVoice (clockOscillators oscs) v =
      (ofVoice oscs v).one.syncedIf (syncFires (mapVoices Osc.one oscs) (syncSource v)) := by
  rw [clockOscillators, ofVoice_synchronizeAll, ofVoice_mapVoices]

/-- What one cycle and a sync keep of every oscillator, n cycles keep. -/
theorem ofVoice_clockOscillators_iterate_keeps {P : VoiceIdx → Osc → Prop} (one : ∀ v o, P v o → P v o.one)
    (synced : ∀ v o fires, P v o → P v (o.syncedIf fires)) {oscs : PerVoice Osc} (h : ∀ v, P v (ofVoice oscs v)) (n : Nat)
    (v : VoiceIdx) : P v (ofVoice (clockOscillators^[n] oscs) v) := by
  induction n generalizing v with
  | zero => exact h v
  | succ n ih =>
    rw [Function.iterate_succ_apply', ofVoice_clockOscillators]
    exact synced v _ _ (one v _ (ih v))

/-- R144: a rising edge of `test` zeroes the accumulator; while `test` stays set it stays zero. -/
theorem oscInv_writeControl {o : Osc} (h : oscInv o = true) (cfg : Cfg) (b : Byte) : oscInv (o.writeControl cfg b) = true := by
  rw [oscInv_iff] at h ⊢
  intro (set : b.getLsbD 3 = true)
  show (Osc.testEdge cfg (b.getLsbD 3) o).accumulator = 0
  rw [set, Osc.testEdge]
  cases old : o.test with
  | true => exact h old
  | false => rfl

/-! ## Envelopes -/

theorem ratePeriodAt_mem (cfg : Cfg) (n : BitVec 4) : ratePeriodAt cfg n ∈ cfg.ratePeriod.toList :=
  Vector.mem_toList_iff.mpr (Vector.getElem_mem _)

theorem envInv_rateTick {cfg : Cfg} {e : Env} (h : envInv cfg e = true) : envInv cfg (e.rateTick cfg).1 = true := by
  unfold Env.rateTick
  split_ifs <;> exact h

theorem expTick_counter_of_step {e : Env} (h : e.expTick.2 = true) : e.expTick.1.exponentialCounter = 0 := by
  unfold Env.expTick at h ⊢
  split_ifs at h ⊢ <;> rfl

theorem envInv_expTick {cfg : Cfg} {e : Env} (h : envInv cfg e = true) : envInv cfg e.expTick.1 = true := by
  rw [envInv_iff] at h
  obtain ⟨below, period, rate⟩ := h
  have zeroed : (0 : Byte) < e.exponentialCounterPeriod := isExpPeriod_pos period
  unfold Env.expTick
  split_ifs with attack reached
  · exact envInv_iff.mpr ⟨zeroed, period, rate⟩
  · exact envInv_iff.mpr ⟨zeroed, period, rate⟩
  · refine envInv_iff.mpr ⟨?_, period, rate⟩
    show e.exponentialCounter + 1 < e.exponentialCounterPeriod
    bv_omega

theorem ratePeriod_amplitudeStep (cfg : Cfg) (e : Env) :
    (e.amplitudeStep cfg).ratePeriod = e.ratePeriod ∨ (e.amplitudeStep cfg).ratePeriod = ratePeriodAt cfg e.decay := by
  unfold Env.amplitudeStep
  split
  · unfold Env.attackStep
    split_ifs
    · exact .inr rfl
    · exact .inl rfl
  · unfold Env.decayStep
    split_ifs <;> exact .inl rfl
  · exact .inl rfl

theorem exponentials_amplitudeStep (cfg : Cfg) (e : Env) :
    (e.amplitudeStep cfg).exponentialCounter = e.exponentialCounter ∧
    (e.amplitudeStep cfg).exponentialCounterPeriod = e.exponentialCounterPeriod := by
  unfold Env.amplitudeStep Env.attackStep Env.decayStep
  split
  · split_ifs <;> exact ⟨rfl, rfl⟩
  · split_ifs <;> exact ⟨rfl, rfl⟩
  · exact ⟨rfl, rfl⟩

theorem isExpPeriod_expPeriodAt {c p : Byte} (h : expPeriodAt c = some p) : isExpPeriod p = true := by
  unfold expPeriodAt at h
  split at h <;> first | (cases h; rfl) | cases h

/-- R199: every new exponential period is one of the six. -/
theorem isExpPeriod_rederive {e : Env} (h : isExpPeriod e.exponentialCounterPeriod = true) :
    isExpPeriod e.rederive.exponentialCounterPeriod = true := by
  show isExpPeriod ((expPeriodAt e.envelopeCounter).getD e.exponentialCounterPeriod) = true
  cases at' : expPeriodAt e.envelopeCounter with
  | none => exact h
  | some p => exact isExpPeriod_expPeriodAt at'

/-- A cycle with a step zeroes the exponential counter before the period can change. -/
theorem envInv_one {cfg : Cfg} {e : Env} (h : envInv cfg e = true) : envInv cfg (e.one cfg) = true := by
  have ticked := envInv_rateTick h
  have counted := envInv_expTick ticked
  simp only [Env.one]
  split_ifs with rate steps
  · obtain ⟨-, period, table⟩ := envInv_iff.mp counted
    have zeroed := expTick_counter_of_step steps
    generalize (e.rateTick cfg).1.expTick.1 = e' at *
    obtain ⟨counter, period'⟩ := exponentials_amplitudeStep cfg e'
    have period'' : isExpPeriod (e'.amplitudeStep cfg).rederive.exponentialCounterPeriod = true :=
      isExpPeriod_rederive (period'.symm ▸ period)
    have counter' : (e'.amplitudeStep cfg).rederive.exponentialCounter = 0 := counter.trans zeroed
    refine envInv_iff.mpr ⟨counter' ▸ isExpPeriod_pos period'', period'', ?_⟩
    show (e'.amplitudeStep cfg).ratePeriod ∈ _
    obtain kept | loaded := ratePeriod_amplitudeStep cfg e'
    · rwa [kept]
    · rw [loaded]; exact ratePeriodAt_mem cfg _
  · exact counted
  · exact ticked

theorem envInv_one_iterate {cfg : Cfg} {e : Env} (h : envInv cfg e = true) (n : Nat) : envInv cfg ((Env.one cfg)^[n] e) = true := by
  induction n with
  | zero => exact h
  | succ n ih => rw [Function.iterate_succ_apply']; exact envInv_one ih

/-- A write that moves no exponential field and takes a period from the table. -/
theorem envInv_of_ratePeriod {cfg : Cfg} {e f : Env} (h : envInv cfg e = true)
    (counter : f.exponentialCounter = e.exponentialCounter)
    (period : f.exponentialCounterPeriod = e.exponentialCounterPeriod)
    (rate : f.ratePeriod = e.ratePeriod ∨ ∃ n, f.ratePeriod = ratePeriodAt cfg n) : envInv cfg f = true := by
  obtain ⟨below, six, table⟩ := envInv_iff.mp h
  refine envInv_iff.mpr ⟨by rwa [counter, period], by rwa [period], ?_⟩
  obtain kept | ⟨n, loaded⟩ := rate
  · rwa [kept]
  · rw [loaded]; exact ratePeriodAt_mem cfg n

theorem envInv_writeControl {cfg : Cfg} {e : Env} (h : envInv cfg e = true) (b : Byte) :
    envInv cfg (e.writeControl cfg b) = true := by
  simp only [Env.writeControl]
  split_ifs
  · exact envInv_of_ratePeriod h rfl rfl (.inr ⟨_, rfl⟩)
  · exact envInv_of_ratePeriod h rfl rfl (.inr ⟨_, rfl⟩)
  · exact envInv_of_ratePeriod h rfl rfl (.inl rfl)

theorem envInv_writeAttackDecay {cfg : Cfg} {e : Env} (h : envInv cfg e = true) (b : Byte) :
    envInv cfg (e.writeAttackDecay cfg b) = true := by
  refine envInv_of_ratePeriod h rfl rfl ?_
  unfold Env.writeAttackDecay
  cases e.state with
  | attack | decaySustain => exact .inr ⟨_, rfl⟩
  | release => exact .inl rfl

theorem envInv_writeSustainRelease {cfg : Cfg} {e : Env} (h : envInv cfg e = true) (b : Byte) :
    envInv cfg (e.writeSustainRelease cfg b) = true := by
  refine envInv_of_ratePeriod h rfl rfl ?_
  unfold Env.writeSustainRelease
  cases e.state with
  | attack | decaySustain => exact .inl rfl
  | release => exact .inr ⟨_, rfl⟩

theorem envInv_afterRst (cfg : Cfg) : envInv cfg (Env.afterRst cfg) = true :=
  envInv_iff.mpr ⟨(by decide : (0 : Byte) < 1), (by decide : isExpPeriod 1 = true), ratePeriodAt_mem cfg 0⟩

/-! ## Calibrations -/

theorem asPiece_length {points : List CalibPoint} {p : List Knot} (h : asPiece points = some p) : p.length = points.length := by
  induction points generalizing p with
  | nil => cases h; rfl
  | cons q rest ih =>
    unfold asPiece at h
    split at h
    next k ks hk hks =>
      cases h
      rw [List.length_cons, List.length_cons, ih hks]
    next => cases h

theorem asKnot_le {q : CalibPoint} {k : Knot} (h : asKnot q = some k) : k.x ≤ 2047 := by
  unfold asKnot at h
  split at h
  · split_ifs at h with bound
    cases h
    exact bound
  · cases h

theorem asPiece_le {points : List CalibPoint} {p : List Knot} (h : asPiece points = some p) : ∀ k ∈ p, k.x ≤ 2047 := by
  induction points generalizing p with
  | nil => cases h; exact fun k hk => absurd hk List.not_mem_nil
  | cons q rest ih =>
    unfold asPiece at h
    split at h
    next k ks hk hks =>
      cases h
      exact List.forall_mem_cons.mpr ⟨asKnot_le hk, ih hks⟩
    next => cases h

theorem risingControls_of_strictlyIncreasing {p : List Knot} (h : strictlyIncreasing p = true) (bound : ∀ k ∈ p, k.x ≤ 2047) :
    risingControls p = true := by
  induction p with
  | nil => rfl
  | cons a rest ih =>
    cases rest with
    | nil => simpa [risingControls] using bound
    | cons b rest =>
      simp only [strictlyIncreasing, Bool.and_eq_true] at h
      obtain ⟨⟨hx, -⟩, hrest⟩ := h
      simp only [risingControls, Bool.and_eq_true]
      exact ⟨hx, ih hrest fun k hk => bound k (List.mem_cons_of_mem a hk)⟩

/-- R264: an accepted list of points is a piece in the sense of R262. -/
theorem pieceInv_of_acceptCalibration {points : List CalibPoint} {p : List Knot} (h : acceptCalibration points = some p) :
    pieceInv p = true := by
  unfold acceptCalibration at h
  split_ifs at h with count
  split at h
  next q hq =>
    split_ifs at h with rising
    cases h
    have length := asPiece_length hq
    rw [pieceInv, risingControls_of_strictlyIncreasing rising (asPiece_le hq), Bool.and_true, decide_eq_true_iff]
    omega
  next => cases h

theorem calibInv_mono {m n : Nat} (le : m ≤ n) {c : Calibration} (h : calibInv m c = true) : calibInv n c = true := by
  simp only [calibInv, Bool.and_eq_true, decide_eq_true_eq] at h ⊢
  exact ⟨h.1, h.2.trans_le le⟩

/-! ## The resampler -/

theorem installSampling_ringOk {cfg : Cfg} (hcfg : 0 < cfg.ringSize) {rs : Resampler} (h : ringOk cfg rs) (args : SamplingArgs)
    (fc fs : Rat) : ringOk cfg (installSampling cfg args fc fs rs) := by
  unfold installSampling
  split_ifs
  · exact ⟨rfl, hcfg⟩
  · exact h

theorem installSampling_fields (cfg : Cfg) (args : SamplingArgs) (fc fs : Rat) (rs : Resampler) :
    (installSampling cfg args fc fs rs).cyclesPerSample = BitVec.ofInt 32 (samplingRatio fc fs) ∧
    (installSampling cfg args fc fs rs).sampleOffset = 0 := by
  unfold installSampling
  split_ifs <;> exact ⟨rfl, rfl⟩

theorem samplingRatio_of_no_failure {cfg : Cfg} {args : SamplingArgs} {fc fs : Rat}
    (h : samplingFailure cfg args fc fs = none) : 1 ≤ samplingRatio fc fs ∧ samplingRatio fc fs ≤ 2 ^ 30 := by
  unfold samplingFailure at h
  split_ifs at h with ratio
  omega

theorem rsInv_installSampling {cfg : Cfg} (hcfg : 0 < cfg.ringSize) {rs : Resampler} (h : ringOk cfg rs) {args : SamplingArgs}
    {fc fs : Rat} (ok : samplingFailure cfg args fc fs = none) : rsInv cfg (installSampling cfg args fc fs rs) = true := by
  obtain ⟨low, high⟩ := samplingRatio_of_no_failure ok
  obtain ⟨ratio, offset⟩ := installSampling_fields cfg args fc fs rs
  have ratio_int : (installSampling cfg args fc fs rs).cyclesPerSample.toInt = samplingRatio fc fs := by
    rw [ratio, BitVec.toInt_ofInt, Int.bmod_eq_of_le (by omega) (by omega)]
  have offset_int : (installSampling cfg args fc fs rs).sampleOffset.toInt = 0 := congrArg BitVec.toInt offset
  have bias := toInt_phaseBias (installSampling cfg args fc fs rs).strategy
  refine rsInv_iff.mpr ⟨ratioInv_iff.mpr ?_, phaseInv_iff.mpr ?_, installSampling_ringOk hcfg h args fc fs⟩
  · rw [ratio_int]; exact ⟨low, high⟩
  · rw [ratio_int, offset_int]; omega

theorem setSampling_eq_ok {cfg : Cfg} {args : SamplingArgs} {rs rs' : Resampler} (h : setSampling cfg args rs = .ok rs') :
    ∃ fc fs, samplingFailure cfg args fc fs = none ∧ rs' = installSampling cfg args fc fs rs := by
  unfold setSampling at h
  split at h
  next fc fs hfc hfs =>
    split at h
    · cases h
    next ok => cases h; exact ⟨fc, fs, ok, rfl⟩
  next => cases h

theorem ringSize_pos {cfg : Cfg} (h : cfg.wf = true) : 0 < cfg.ringSize := by
  simp only [Cfg.wf, Bool.and_eq_true, decide_eq_true_eq] at h
  obtain ⟨⟨⟨⟨⟨-, ring⟩, -⟩, -⟩, -⟩, -⟩ := h
  exact ring

/-! ## Operations -/

/-- The result and the host's stream are no part of the invariant. -/
theorem Sound.setResult {s : State} (h : Sound s) (r : Result) : Sound (s.setResult r) := ⟨h.cfg, h.osc, h.env, h.chip, h.calib, h.rs⟩

theorem Sound.setPending {s : State} (h : Sound s) (cs : List Command) : Sound (s.setPending cs) :=
  ⟨h.cfg, h.osc, h.env, h.chip, h.calib, h.rs⟩

theorem Sound.latchBus {s : State} (h : Sound s) (b : Byte) : Sound (latchBus b s) where
  cfg := h.cfg
  osc := h.osc
  env := h.env
  chip := chipInv_iff.mpr ⟨le_rfl, fun closed => absurd closed (by decide : (0x2000 : BitVec 16).toNat ≠ 0)⟩
  calib := h.calib
  rs := h.rs

theorem forall_ofVoice_setVoice {α : Type} {P : α → Prop} {t : PerVoice α} (h : ∀ v, P (ofVoice t v)) {v : VoiceIdx} {a : α}
    (ha : P a) (w : VoiceIdx) : P (ofVoice (setVoice t v a) w) := by
  by_cases hw : w = v
  · subst hw; rwa [ofVoice_setVoice_same]
  · rw [ofVoice_setVoice_of_ne _ hw]; exact h w

theorem Sound.modifyOsc {s : State} (h : Sound s) {f : Osc → Osc} (hf : ∀ o, oscInv o = true → oscInv (f o) = true)
    (v : VoiceIdx) : Sound (modifyOsc v f s) where
  cfg := h.cfg
  osc := forall_ofVoice_setVoice (P := fun o => oscInv o = true) h.osc (hf _ (h.osc v))
  env := h.env
  chip := h.chip
  calib := h.calib
  rs := h.rs

theorem Sound.modifyEnv {s : State} (h : Sound s) {f : Env → Env} (hf : ∀ e, envInv s.cfg e = true → envInv s.cfg (f e) = true)
    (v : VoiceIdx) : Sound (modifyEnv v f s) where
  cfg := h.cfg
  osc := h.osc
  env := forall_ofVoice_setVoice (P := fun e => envInv s.cfg e = true) h.env (hf _ (h.env v))
  chip := h.chip
  calib := h.calib
  rs := h.rs

theorem Sound.written {b : Byte} {s t : State} (h : Sound s) (ht : Written b s t) : Sound t := by
  have latched := h.latchBus b
  cases ht with
  | osc v f hf => exact latched.modifyOsc (fun o ho => by rw [hf o]; exact ho) v
  | control v =>
    exact (latched.modifyOsc (fun o ho => oscInv_writeControl ho s.cfg b) v).modifyEnv (fun e he => envInv_writeControl he b) v
  | attackDecay v => exact latched.modifyEnv (fun e he => envInv_writeAttackDecay he b) v
  | sustainRelease v => exact latched.modifyEnv (fun e he => envInv_writeSustainRelease he b) v
  | filt f => exact ⟨latched.cfg, latched.osc, latched.env, latched.chip, latched.calib, latched.rs⟩
  | unmapped => exact latched

/-- Cycles keep the invariant where they leave the phase at one between operations. -/
theorem Sound.elapsed {n : Nat} {s t : State} (h : Sound s) (ht : Elapsed n s t) (phase : phaseInv t.rs = true) : Sound t := by
  obtain ⟨ratio, -, ring⟩ := rsInv_iff.mp h.rs
  have ratio' : ratioInv t.rs = true := by
    rw [ratioInv_iff, ht.ratio]
    exact ratioInv_iff.mp ratio
  refine ⟨ht.cfg ▸ h.cfg, fun v => ?_, fun v => ?_, ?_, fun m => ?_, rsInv_iff.mpr ⟨ratio', phase, ht.cfg ▸ ht.ring ring⟩⟩
  · rw [ht.osc]
    exact ofVoice_clockOscillators_iterate_keeps (P := fun _ o => oscInv o = true) (fun _ _ => oscInv_one)
      (fun _ _ fires ho => oscInv_syncedIf ho fires) h.osc n v
  · rw [ht.cfg, ht.env, ofVoice_clockEnvelopes_iterate]
    exact envInv_one_iterate (h.env v) n
  · rw [ht.aged h.chip]
    exact chipInv_age_iterate h.chip n
  · rw [ht.installs, ht.calib]
    exact h.calib m

theorem Sound.phaseInv {s : State} (h : Sound s) : phaseInv s.rs = true := (rsInv_iff.mp h.rs).2.1

theorem Sound.resetChip {s : State} (h : Sound s) : Sound (resetChip s) where
  cfg := h.cfg
  osc v := by cases v <;> rfl
  env v := (ofVoice_everyVoice (Env.afterRst s.cfg) v).symm ▸ envInv_afterRst s.cfg
  chip := rfl
  calib := h.calib
  rs := h.rs

theorem Sound.installCalibration {s : State} (h : Sound s) {p : List Knot} (hp : pieceInv p = true) :
    Sound (installCalibration p s) where
  cfg := h.cfg
  osc := h.osc
  env := h.env
  chip := h.chip
  calib m := by
    show calibInv (s.installs + 1) (perModel (setPerModel s.calib s.chip.chipModel _) m) = true
    by_cases hm : m = s.chip.chipModel
    · rw [hm, perModel_setPerModel_same]
      simp [calibInv, hp]
    · rw [perModel_setPerModel_of_ne _ hm]
      exact calibInv_mono (Nat.le_succ _) (h.calib m)
  rs := h.rs

/-- Every operation keeps the invariant. -/
theorem Sound.exec {i : Instr} {s t : State} (h : Sound s) (ht : exec i s = .next t) : Sound t := by
  induction i using Instr.kinds with
  | wr o b =>
    rw [exec_decodeWr] at ht
    obtain rfl := done_eq_next.mp ht
    exact (h.written (busWrite_written o b s)).setResult _
  | rd o =>
    rw [exec_decodeRd] at ht
    obtain rfl := answer_eq_next.mp ht
    exact h.setResult _
  | clk =>
    obtain rfl := done_eq_next.mp ht
    exact (h.elapsed (clockOne_elapsed s) h.phaseInv).setResult _
  | clkn d =>
    obtain rfl := done_eq_next.mp ht
    exact (h.elapsed (clockN_elapsed d s) ((clockN_rs d s).symm ▸ h.phaseInv)).setResult _
  | rst =>
    obtain rfl := done_eq_next.mp ht
    exact h.resetChip.setResult _
  | extin x =>
    obtain rfl := done_eq_next.mp ht
    exact ⟨h.cfg, h.osc, h.env, h.chip, h.calib, h.rs⟩
  | out =>
    obtain rfl := answer_eq_next.mp ht
    exact h.setResult _
  | render d m =>
    obtain rfl := answer_eq_next.mp ht
    obtain ⟨ratio, phase, -⟩ := rsInv_iff.mp h.rs
    have accounted := renderLoop_accounted m (d := d) ratio phase
    exact (h.elapsed accounted.elapsed accounted.sound).setResult _
  | model n =>
    change execModel n s = _ at ht
    unfold execModel at ht
    split at ht
    · obtain rfl := answer_eq_next.mp ht
      exact ⟨h.cfg, h.osc, h.env, h.chip, h.calib, h.rs⟩
    · obtain rfl := raiseConfigError_eq_next.mp ht
      exact h.setResult _
  | mute v flag =>
    rw [exec_mute] at ht
    obtain rfl := done_eq_next.mp ht
    exact ⟨h.cfg, h.osc, h.env, h.chip, h.calib, h.rs⟩
  | exten flag =>
    obtain rfl := done_eq_next.mp ht
    exact ⟨h.cfg, h.osc, h.env, h.chip, h.calib, h.rs⟩
  | sampling args =>
    change execSampling args s = _ at ht
    unfold execSampling at ht
    split at ht
    next rs hrs =>
      obtain rfl := answer_eq_next.mp ht
      obtain ⟨fc, fs, ok, rfl⟩ := setSampling_eq_ok hrs
      obtain ⟨-, -, ring⟩ := rsInv_iff.mp h.rs
      exact ⟨h.cfg, h.osc, h.env, h.chip, h.calib, rsInv_installSampling (ringSize_pos h.cfg) ring ok⟩
    next =>
      obtain rfl := raiseConfigError_eq_next.mp ht
      exact h.setResult _
  | calib points =>
    change execCalib points s = _ at ht
    unfold execCalib at ht
    split at ht
    next p hp =>
      obtain rfl := answer_eq_next.mp ht
      exact (h.installCalibration (pieceInv_of_acceptCalibration hp)).setResult _
    next =>
      obtain rfl := raiseConfigError_eq_next.mp ht
      exact h.setResult _

/-- Settles O58. -/
theorem stepKeepsTheInvariant : Obligations.StepKeepsTheInvariant := by
  intro s t hs h
  rw [inv_iff_sound] at hs ⊢
  obtain rfl | ⟨rest, i, hexec⟩ := step_eq_next h
  · exact hs
  · exact (hs.setPending rest).exec hexec

/-- Settles O59: a computation on the power-on state. -/
theorem invariantHoldsAtPowerOn : Obligations.InvariantHoldsAtPowerOn := by
  unfold Obligations.InvariantHoldsAtPowerOn
  decide +kernel

end Sys2Proof.Machine
end

section
/-! PROOFS. RENDER as a whole (47_resampler.md R355, R356): its frame, its account of cycles, its sample count. -/

namespace Sys2Proof.Machine

open Sys2Proof.Claims

theorem exec_render (d m : Nat) (s : State) :
    exec (.render d m) s = answerRendered (renderLoop s.rs.strategy m d s) := rfl

/-- A cycle writes accumulator, LFSR and MSB flag of an oscillator (R40). -/
def Osc.Framed (o p : Osc) : Prop :=
  p = { o with accumulator := p.accumulator, shiftRegister := p.shiftRegister, msbRising := p.msbRising }

/-- A cycle writes no nibble and no gate of an envelope (R42). -/
def Env.Framed (e f : Env) : Prop :=
  f = { e with
    state := f.state, envelopeCounter := f.envelopeCounter, rateCounter := f.rateCounter, ratePeriod := f.ratePeriod,
    exponentialCounter := f.exponentialCounter, exponentialCounterPeriod := f.exponentialCounterPeriod, holdZero := f.holdZero }

theorem Osc.Framed.trans {o p q : Osc} (hop : o.Framed p) (hpq : p.Framed q) : o.Framed q := by
  unfold Osc.Framed at *
  rw [hpq, hop]

theorem Env.Framed.trans {e f g : Env} (hef : e.Framed f) (hfg : f.Framed g) : e.Framed g := by
  unfold Env.Framed at *
  rw [hfg, hef]

theorem Osc.one_framed (o : Osc) : o.Framed o.one := by
  unfold Osc.one
  split_ifs <;> rfl

theorem Env.rateTick_framed (cfg : Cfg) (e : Env) : e.Framed (e.rateTick cfg).1 := by
  unfold Env.rateTick
  split_ifs <;> rfl

theorem Env.expTick_framed (e : Env) : e.Framed e.expTick.1 := by
  unfold Env.expTick
  split_ifs <;> rfl

theorem Env.amplitudeStep_framed (cfg : Cfg) (e : Env) : e.Framed (e.amplitudeStep cfg) := by
  unfold Env.amplitudeStep Env.attackStep Env.decayStep
  split
  · split_ifs <;> rfl
  · split_ifs <;> rfl
  · rfl

theorem Env.one_framed (cfg : Cfg) (e : Env) : e.Framed (e.one cfg) := by
  have rate := e.rateTick_framed cfg
  have exponential := rate.trans (e.rateTick cfg).1.expTick_framed
  simp only [Env.one]
  split_ifs
  · exact (exponential.trans (Env.amplitudeStep_framed cfg _)).trans rfl
  · exact exponential
  · exact rate

theorem Elapsed.osc_framed {n : Nat} {s t : State} (h : Elapsed n s t) (v : VoiceIdx) :
    (ofVoice s.osc v).Framed (ofVoice t.osc v) := by
  rw [h.osc]
  exact ofVoice_clockOscillators_iterate_keeps (P := fun w => (ofVoice s.osc w).Framed)
    (fun _ o ho => ho.trans o.one_framed) (fun _ _ _ ho => ho.trans rfl) (fun _ => rfl) n v

theorem Elapsed.env_framed {n : Nat} {s t : State} (h : Elapsed n s t) (v : VoiceIdx) :
    (ofVoice s.env v).Framed (ofVoice t.env v) := by
  rw [h.env, ofVoice_clockEnvelopes_iterate]
  clear h
  induction n with
  | zero => rfl
  | succ n ih => rw [Function.iterate_succ_apply']; exact ih.trans (Env.one_framed s.cfg _)

/-- Settles O53. -/
theorem renderCompletesWithinTheBuffer : Obligations.RenderCompletesWithinTheBuffer := by
  intro d m s
  obtain ⟨length, -, n, elapsed⟩ := renderLoop_bounded m d s
  exact ⟨_, _, _, exec_render d m s, rfl, length, elapsed.osc_framed, elapsed.env_framed, elapsed.filt, elapsed.extf,
    elapsed.chip, elapsed.cfg, elapsed.muted, elapsed.calib, elapsed.installs, elapsed.pending, elapsed.rs⟩

/-- Settles O54. -/
theorem renderAccountsForEveryCycle : Obligations.RenderAccountsForEveryCycle := by
  intro d m s hinv
  obtain ⟨ratio, phase⟩ := ratioInv_phaseInv_of_inv hinv
  have bounded := renderLoop_bounded m d s
  have accounted := renderLoop_accounted m (d := d) ratio phase
  refine ⟨_, _, _, _, exec_render d m s, rfl, accounted.rem_le, clkTimes_eq _ s, ?_, accounted.phase, bounded.drained⟩
  exact (accounted.elapsed.setResult _).digital_eq (clkState_iterate_elapsed _ s) (inv_iff_sound.mp hinv).chip

theorem toInt_phaseBias_eq (strategy : Strategy) :
    (phaseBias strategy).toInt = if strategy = .fast then 0x8000 else 0 := by cases strategy <;> rfl

/-- A ratio is at least one 65536th of a cycle, so 65536 samples per cycle are enough. -/
theorem lt_dueCycle_of_ample {d m : Nat} {s : State} (hr : ratioInv s.rs = true) (hp : phaseInv s.rs = true)
    (ample : 65536 * (d + 1) ≤ m) : (d : Int) < dueCycle s (m + 1) := by
  rw [ratioInv_iff] at hr
  rw [phaseInv_iff] at hp
  have samples : (m : Int) ≤ m * s.rs.cyclesPerSample.toInt := le_mul_of_one_le_right (Int.natCast_nonneg m) hr.1
  rw [dueCycle, add_mul, one_mul]
  omega

/-- Settles O55. -/
theorem renderSampleCount : Obligations.RenderSampleCount := by
  intro d m s hinv ample
  obtain ⟨ratio, phase⟩ := ratioInv_phaseInv_of_inv hinv
  obtain ⟨last, next⟩ := renderLoop_largestCount m ratio phase (lt_dueCycle_of_ample ratio phase ample)
  simp only [dueCycle, toInt_phaseBias_eq] at last next
  exact ⟨_, _, _, exec_render d m s, rfl, last, next⟩

end Sys2Proof.Machine
end

section
/-! PROOFS. What flows where (10_state.md R20, 43_voice.md R231, 60_exceptions.md R381): operations on two states with the same digital part,
the two halves of the state, and operations that fail. -/

namespace Sys2Proof.Machine

open Sys2Proof.Claims

/-! ## The digital part of two states -/

theorem sameDigital_iff {s t : State} :
    sameDigital s t ↔ s.cfg = t.cfg ∧ s.chip.busValue = t.chip.busValue ∧ s.chip.busValueTtl = t.chip.busValueTtl ∧
      s.osc = t.osc ∧ s.env = t.env := by
  rw [sameDigital, digital, digital, Digital.mk.injEq]

/-- The bus value and its time-to-live age by themselves. -/
theorem Chip.age_congr {c d : Chip} (hvalue : c.busValue = d.busValue) (httl : c.busValueTtl = d.busValueTtl) :
    c.age.busValue = d.age.busValue ∧ c.age.busValueTtl = d.age.busValueTtl := by
  refine ⟨?_, BitVec.eq_of_toNat_eq ?_⟩
  · rw [Chip.age_busValue, Chip.age_busValue, hvalue, httl]
  · rw [Chip.toNat_age_busValueTtl, Chip.toNat_age_busValueTtl, httl]

theorem Chip.ageBy_congr {c d : Chip} (hvalue : c.busValue = d.busValue) (httl : c.busValueTtl = d.busValueTtl) (n : Nat) :
    (c.ageBy n).busValue = (d.ageBy n).busValue ∧ (c.ageBy n).busValueTtl = (d.ageBy n).busValueTtl := by
  simp only [Chip.ageBy, hvalue, httl, and_self]

/-- f reads nothing but the digital part to write the digital part. -/
def KeepsSameDigital (f : State → State) : Prop := ∀ s t, sameDigital s t → sameDigital (f s) (f t)

theorem KeepsSameDigital.iterate {f : State → State} (hf : KeepsSameDigital f) (n : Nat) : KeepsSameDigital f^[n] := by
  induction n with
  | zero => exact fun _ _ h => h
  | succ n ih =>
    intro s t h
    rw [Function.iterate_succ_apply', Function.iterate_succ_apply']
    exact hf _ _ (ih s t h)

theorem clockOne_keepsSameDigital : KeepsSameDigital clockOne := by
  intro s t h
  obtain ⟨hcfg, hvalue, httl, hosc, henv⟩ := sameDigital_iff.mp h
  obtain ⟨value, ttl⟩ := Chip.age_congr hvalue httl
  refine sameDigital_iff.mpr ⟨hcfg, value, ttl, congrArg clockOscillators hosc, ?_⟩
  show clockEnvelopes s.cfg s.env = clockEnvelopes t.cfg t.env
  rw [hcfg, henv]

theorem clockN_keepsSameDigital (d : Nat) : KeepsSameDigital (clockN d) := by
  intro s t h
  obtain rfl | pos := Nat.eq_zero_or_pos d
  · exact h
  · obtain ⟨hcfg, hvalue, httl, hosc, henv⟩ := sameDigital_iff.mp h
    obtain ⟨value, ttl⟩ := Chip.ageBy_congr hvalue httl d
    rw [clockN_of_pos pos, clockN_of_pos pos]
    refine sameDigital_iff.mpr ⟨hcfg, value, ttl, congrArg clockOscillators^[d] hosc, ?_⟩
    show (clockEnvelopes s.cfg)^[d] s.env = (clockEnvelopes t.cfg)^[d] t.env
    rw [hcfg, henv]

theorem pushSample_keepsSameDigital : KeepsSameDigital pushSample := fun s t h => clockOne_keepsSameDigital s t h

theorem clockKeepingPrev_keepsSameDigital (n : Nat) : KeepsSameDigital (clockKeepingPrev n) := by
  intro s t h
  cases n with
  | zero => exact h
  | succ k => exact clockOne_keepsSameDigital _ _ (clockOne_keepsSameDigital.iterate k s t h)

theorem advanceCycles_keepsSameDigital (strategy : Strategy) (n : Nat) : KeepsSameDigital (advanceCycles strategy n) := by
  cases strategy with
  | fast => exact clockN_keepsSameDigital n
  | interpolate => exact clockKeepingPrev_keepsSameDigital n
  | resampleInterpolate | resampleFast => exact pushSample_keepsSameDigital.iterate n

theorem latchBus_keepsSameDigital (b : Byte) : KeepsSameDigital (latchBus b) := by
  intro s t h
  obtain ⟨hcfg, -, -, hosc, henv⟩ := sameDigital_iff.mp h
  exact sameDigital_iff.mpr ⟨hcfg, rfl, rfl, hosc, henv⟩

theorem modifyOsc_keepsSameDigital (v : VoiceIdx) {f : Cfg → Osc → Osc} :
    KeepsSameDigital (fun s => modifyOsc v (f s.cfg) s) := by
  intro s t h
  obtain ⟨hcfg, hvalue, httl, hosc, henv⟩ := sameDigital_iff.mp h
  refine sameDigital_iff.mpr ⟨hcfg, hvalue, httl, ?_, henv⟩
  show setVoice s.osc v (f s.cfg (ofVoice s.osc v)) = setVoice t.osc v (f t.cfg (ofVoice t.osc v))
  rw [hcfg, hosc]

theorem modifyEnv_keepsSameDigital (v : VoiceIdx) {f : Cfg → Env → Env} :
    KeepsSameDigital (fun s => modifyEnv v (f s.cfg) s) := by
  intro s t h
  obtain ⟨hcfg, hvalue, httl, hosc, henv⟩ := sameDigital_iff.mp h
  refine sameDigital_iff.mpr ⟨hcfg, hvalue, httl, hosc, ?_⟩
  show setVoice s.env v (f s.cfg (ofVoice s.env v)) = setVoice t.env v (f t.cfg (ofVoice t.env v))
  rw [hcfg, henv]

theorem busWrite_keepsSameDigital (o b : Byte) : KeepsSameDigital (busWrite o b) := by
  intro s t h
  have latched := latchBus_keepsSameDigital b s t h
  unfold busWrite
  cases writeTarget o with
  | freqLo v => exact modifyOsc_keepsSameDigital v (f := fun _ => Osc.writeFreqLo b) _ _ latched
  | freqHi v => exact modifyOsc_keepsSameDigital v (f := fun _ => Osc.writeFreqHi b) _ _ latched
  | pwLo v => exact modifyOsc_keepsSameDigital v (f := fun _ => Osc.writePwLo b) _ _ latched
  | pwHi v => exact modifyOsc_keepsSameDigital v (f := fun _ => Osc.writePwHi b) _ _ latched
  | control v =>
    exact modifyEnv_keepsSameDigital v (f := fun cfg => Env.writeControl cfg b) _ _
      (modifyOsc_keepsSameDigital v (f := fun cfg => Osc.writeControl cfg b) _ _ latched)
  | attackDecay v => exact modifyEnv_keepsSameDigital v (f := fun cfg => Env.writeAttackDecay cfg b) _ _ latched
  | sustainRelease v => exact modifyEnv_keepsSameDigital v (f := fun cfg => Env.writeSustainRelease cfg b) _ _ latched
  | fcLo | fcHi | resFilt | modeVol | unmapped => exact latched

theorem resetChip_keepsSameDigital : KeepsSameDigital resetChip := by
  intro s t h
  obtain ⟨hcfg, -⟩ := sameDigital_iff.mp h
  exact sameDigital_iff.mpr ⟨hcfg, rfl, rfl, congrArg (fun cfg => everyVoice (Osc.afterRst cfg)) hcfg,
    congrArg (fun cfg => everyVoice (Env.afterRst cfg)) hcfg⟩

/-! ## Operations that may fail -/

/-- MODEL sets the model or fails. -/
theorem execModel_cases {n : Int} {s t : State} (h : execModel n s = .next t) :
    (∃ m, t = (s.setChip { s.chip with chipModel := m }).setResult .ok) ∨ t = s.setResult (.configError .chipModel) := by
  unfold execModel at h
  split at h
  · exact .inl ⟨_, answer_eq_next.mp h⟩
  · exact .inr (raiseConfigError_eq_next.mp h)

/-- SAMPLING replaces the resampler or fails. -/
theorem execSampling_cases {args : SamplingArgs} {s t : State} (h : execSampling args s = .next t) :
    (∃ rs, setSampling s.cfg args s.rs = .ok rs ∧ t = (s.setRs rs).setResult .ok) ∨
    ∃ c, setSampling s.cfg args s.rs = .error c ∧ t = s.setResult (.configError c) := by
  unfold execSampling at h
  split at h
  next rs hrs => exact .inl ⟨rs, hrs, answer_eq_next.mp h⟩
  next c hc => exact .inr ⟨c, hc, raiseConfigError_eq_next.mp h⟩

/-- CALIB installs a piece or fails. -/
theorem execCalib_cases {points : List CalibPoint} {s t : State} (h : execCalib points s = .next t) :
    (∃ p, acceptCalibration points = some p ∧ t = (installCalibration p s).setResult .ok) ∨
    (acceptCalibration points = none ∧ t = s.setResult (.configError .calibration)) := by
  unfold execCalib at h
  split at h
  next p hp => exact .inl ⟨p, hp, answer_eq_next.mp h⟩
  next hp => exact .inr ⟨hp, raiseConfigError_eq_next.mp h⟩

/-- MODEL, SAMPLING and CALIB leave the digital part alone, whether they succeed or fail. -/
theorem sameDigital_of_execModel {n : Int} {s t : State} (h : execModel n s = .next t) : sameDigital s t := by
  obtain ⟨m, rfl⟩ | rfl := execModel_cases h <;> exact ⟨rfl, rfl⟩

theorem sameDigital_of_execSampling {args : SamplingArgs} {s t : State} (h : execSampling args s = .next t) :
    sameDigital s t := by
  obtain ⟨rs, -, rfl⟩ | ⟨c, -, rfl⟩ := execSampling_cases h <;> exact ⟨rfl, rfl⟩

theorem sameDigital_of_execCalib {points : List CalibPoint} {s t : State} (h : execCalib points s = .next t) :
    sameDigital s t := by
  obtain ⟨p, -, rfl⟩ | ⟨-, rfl⟩ := execCalib_cases h <;> exact ⟨rfl, rfl⟩

theorem sameDigital.symm {s t : State} (h : sameDigital s t) : sameDigital t s := ⟨h.1.symm, h.2.symm⟩

theorem sameDigital.trans {s t u : State} (h : sameDigital s t) (k : sameDigital t u) : sameDigital s u :=
  ⟨h.1.trans k.1, h.2.trans k.2⟩

/-! ## Two runs -/

/-- Settles O56. -/
theorem digitalPartIgnoresTheRest : Obligations.DigitalPartIgnoresTheRest := by
  intro i s t s' t' h hs ht noRender
  induction i using Instr.kinds with
  | wr o b =>
    rw [exec_decodeWr] at hs ht
    obtain rfl := done_eq_next.mp hs
    obtain rfl := done_eq_next.mp ht
    exact busWrite_keepsSameDigital o b s t h
  | rd o =>
    rw [exec_decodeRd] at hs ht
    obtain rfl := answer_eq_next.mp hs
    obtain rfl := answer_eq_next.mp ht
    exact h
  | clk =>
    obtain rfl := done_eq_next.mp hs
    obtain rfl := done_eq_next.mp ht
    exact clockOne_keepsSameDigital s t h
  | clkn d =>
    obtain rfl := done_eq_next.mp hs
    obtain rfl := done_eq_next.mp ht
    exact clockN_keepsSameDigital d s t h
  | rst =>
    obtain rfl := done_eq_next.mp hs
    obtain rfl := done_eq_next.mp ht
    exact resetChip_keepsSameDigital s t h
  | mute v flag =>
    rw [exec_mute] at hs ht
    obtain rfl := done_eq_next.mp hs
    obtain rfl := done_eq_next.mp ht
    exact h
  | extin _ | out | exten _ =>
    obtain rfl := answer_eq_next.mp hs
    obtain rfl := answer_eq_next.mp ht
    exact h
  | render d m => exact absurd rfl (noRender d m)
  | model n => exact (sameDigital_of_execModel hs).symm.trans (h.trans (sameDigital_of_execModel ht))
  | sampling args => exact (sameDigital_of_execSampling hs).symm.trans (h.trans (sameDigital_of_execSampling ht))
  | calib points => exact (sameDigital_of_execCalib hs).symm.trans (h.trans (sameDigital_of_execCalib ht))

/-- What RENDER's timing depends on: the digital part, strategy, ratio and phase. -/
structure SameTiming (s t : State) : Prop where
  digital : sameDigital s t
  strategy : s.rs.strategy = t.rs.strategy
  ratio : s.rs.cyclesPerSample = t.rs.cyclesPerSample
  phase : s.rs.sampleOffset = t.rs.sampleOffset

theorem SameTiming.nextPhase {s t : State} (h : SameTiming s t) :
    nextPhase s.rs.strategy s.rs = nextPhase t.rs.strategy t.rs := by
  rw [Machine.nextPhase, Machine.nextPhase, h.phase, h.ratio, h.strategy]

theorem SameTiming.cyclesDue {s t : State} (h : SameTiming s t) : cyclesDue s = cyclesDue t := by
  rw [Machine.cyclesDue, Machine.cyclesDue, cyclesToSample, cyclesToSample, h.nextPhase]

/-- Two states as many cycles on, with the same phase, agree again. -/
theorem SameTiming.of_elapsed {m n : Nat} {s t s' t' : State} (h : SameTiming s t) (hs : Elapsed m s s') (ht : Elapsed n t t')
    (digital : sameDigital s' t') (phase : s'.rs.sampleOffset = t'.rs.sampleOffset) : SameTiming s' t' where
  digital := digital
  strategy := hs.strategy.trans (h.strategy.trans ht.strategy.symm)
  ratio := hs.ratio.trans (h.ratio.trans ht.ratio.symm)
  phase := phase

theorem SameTiming.renderSample {s t : State} (h : SameTiming s t) : SameTiming (renderSample s) (renderSample t) := by
  have formed (u : State) :
      sameDigital (advanceCycles u.rs.strategy (Machine.cyclesDue u).toNat u) (Machine.renderSample u) := by
    unfold Machine.renderSample produceSample
    split <;> exact ⟨rfl, rfl⟩
  have clocked : sameDigital (advanceCycles s.rs.strategy (Machine.cyclesDue s).toNat s)
      (advanceCycles t.rs.strategy (Machine.cyclesDue t).toNat t) := by
    rw [← h.strategy, ← h.cyclesDue]
    exact advanceCycles_keepsSameDigital _ _ s t h.digital
  refine h.of_elapsed (renderSample_elapsed s) (renderSample_elapsed t) ?_ ?_
  · exact (formed s).symm.trans (clocked.trans (formed t))
  · rw [renderSample_sampleOffset, renderSample_sampleOffset, h.nextPhase, h.strategy]

/-- What two RENDERs of the same timing leave. -/
structure SameRendered (r q : Rendered) : Prop where
  length : r.samples.length = q.samples.length
  rem : r.rem = q.rem
  state : SameTiming r.state q.state

theorem SameTiming.tailState {s t : State} (h : SameTiming s t) (d : Nat) :
    SameTiming (tailState s.rs.strategy d s) (tailState t.rs.strategy d t) := by
  refine h.of_elapsed (tailState_elapsed _ d s) (tailState_elapsed _ d t) ?_ ?_
  · rw [h.strategy]
    exact advanceCycles_keepsSameDigital _ d s t h.digital
  · rw [tailState_sampleOffset, tailState_sampleOffset, h.phase]

theorem SameTiming.renderTail {s t : State} (h : SameTiming s t) (d : Nat) :
    SameRendered (renderTail s.rs.strategy d s) (renderTail t.rs.strategy d t) := by
  have hcfg : s.cfg = t.cfg := h.digital.1
  cases keeps : s.cfg.renderKeepsRemainder with
  | true =>
    rw [renderTail_of_keeps keeps, renderTail_of_keeps (hcfg ▸ keeps)]
    exact ⟨rfl, rfl, h⟩
  | false =>
    rw [renderTail_of_drops keeps, renderTail_of_drops (hcfg ▸ keeps)]
    exact ⟨rfl, rfl, h.tailState d⟩

theorem SameTiming.renderLoop (room : Nat) {d : Nat} {s t : State} (h : SameTiming s t) :
    SameRendered (renderLoop s.rs.strategy room d s) (renderLoop t.rs.strategy room d t) := by
  induction room generalizing d s t with
  | zero =>
    obtain late | due := lt_or_ge (d : Int) (Machine.cyclesDue s)
    · rw [renderLoop_of_lt late, renderLoop_of_lt (h.cyclesDue ▸ late)]
      exact h.renderTail d
    · rw [renderLoop_zero due, renderLoop_zero (h.cyclesDue ▸ due)]
      exact ⟨rfl, rfl, h⟩
  | succ room ih =>
    obtain late | due := lt_or_ge (d : Int) (Machine.cyclesDue s)
    · rw [renderLoop_of_lt late, renderLoop_of_lt (h.cyclesDue ▸ late)]
      exact h.renderTail d
    · rw [renderLoop_succ due, renderLoop_succ (h.cyclesDue ▸ due), ← h.cyclesDue]
      obtain ⟨length, rem, state⟩ := ih h.renderSample
      exact ⟨congrArg Nat.succ length, rem, state⟩

/-- Settles O57. -/
theorem renderTimingIgnoresTheModel : Obligations.RenderTimingIgnoresTheModel := by
  intro d m s t digital strategy ratio phase
  obtain ⟨length, rem, state⟩ := SameTiming.renderLoop m (d := d) ⟨digital, strategy, ratio, phase⟩
  exact ⟨_, _, _, _, _, exec_render d m s, exec_render d m t, rfl, by rw [rem]; rfl, length, state.digital, state.phase⟩

/-! ## Failures -/

theorem samplingFailure_codes {cfg : Cfg} {args : SamplingArgs} {fc fs : Rat} {c : ConfigCode}
    (h : samplingFailure cfg args fc fs = some c) : c = .frequency ∨ c = .ringOverflow ∨ c = .passband ∨ c = .filterScale := by
  simp only [samplingFailure] at h
  split_ifs at h
  · exact .inl (Option.some.inj h).symm
  · exact .inr (.inl (Option.some.inj h).symm)
  · exact .inr (.inr (.inl (Option.some.inj h).symm))
  · exact .inr (.inr (.inr (Option.some.inj h).symm))

theorem setSampling_codes {cfg : Cfg} {args : SamplingArgs} {rs : Resampler} {c : ConfigCode}
    (h : setSampling cfg args rs = .error c) : c = .frequency ∨ c = .ringOverflow ∨ c = .passband ∨ c = .filterScale := by
  unfold setSampling at h
  split at h
  · split at h
    next failure => cases h; exact samplingFailure_codes failure
    next => cases h
  · cases h
    exact .inl rfl

/-- Settles O46. -/
theorem configErrorChangesNothing : Obligations.ConfigErrorChangesNothing := by
  intro i s t c h failed
  cases i with
  | model n =>
    obtain ⟨m, rfl⟩ | rfl := execModel_cases h
    · cases failed
    · cases failed
      exact ⟨rfl, rfl⟩
  | sampling args =>
    obtain ⟨rs, -, rfl⟩ | ⟨code, hcode, rfl⟩ := execSampling_cases h
    · cases failed
    · cases failed
      exact ⟨rfl, setSampling_codes hcode⟩
  | calib points =>
    obtain ⟨p, -, rfl⟩ | ⟨-, rfl⟩ := execCalib_cases h
    · cases failed
    · cases failed
      exact ⟨rfl, rfl⟩
  | _ =>
    obtain rfl := answer_eq_next.mp h
    cases failed

/-! ## The two halves of the state -/

/-- What a clocked cycle and RENDER leave of the configuration: everything. -/
theorem Elapsed.sameConfiguration {n : Nat} {s t : State} (h : Elapsed n s t) :
    t.chip.chipModel = s.chip.chipModel ∧ t.extf.enabled = s.extf.enabled ∧ t.muted = s.muted ∧ t.calib = s.calib ∧
    t.rs.strategy = s.rs.strategy ∧ t.rs.cyclesPerSample = s.rs.cyclesPerSample ∧ t.rs.firN = s.rs.firN ∧
    t.rs.firRes = s.rs.firRes ∧ t.rs.firDesign = s.rs.firDesign :=
  ⟨(congrArg Chip.chipModel h.chip :), (congrArg Extf.enabled h.extf :), h.muted, h.calib, h.strategy, h.ratio,
    (congrArg Resampler.firN h.rs :), (congrArg Resampler.firRes h.rs :), (congrArg Resampler.firDesign h.rs :)⟩

/-- Settles O47. -/
theorem runTimeStateAndConfigurationArePartitioned : Obligations.RunTimeStateAndConfigurationArePartitioned := by
  intro i s t h
  cases i with
  | model n => obtain ⟨m, rfl⟩ | rfl := execModel_cases h <;> exact ⟨⟨rfl, rfl, rfl, rfl, rfl⟩, rfl⟩
  | sampling args => obtain ⟨rs, -, rfl⟩ | ⟨c, -, rfl⟩ := execSampling_cases h <;> exact ⟨⟨rfl, rfl, rfl, rfl, rfl⟩, rfl⟩
  | calib points => obtain ⟨p, -, rfl⟩ | ⟨-, rfl⟩ := execCalib_cases h <;> exact ⟨⟨rfl, rfl, rfl, rfl, rfl⟩, rfl⟩
  | muteV0 _ | muteV1 _ | muteV2 _ | exten _ =>
    obtain rfl := answer_eq_next.mp h
    exact ⟨⟨rfl, rfl, rfl, rfl, rfl⟩, rfl⟩
  | clk =>
    obtain rfl := done_eq_next.mp h
    exact (clockOne_elapsed s).sameConfiguration
  | clkn d =>
    obtain rfl := done_eq_next.mp h
    exact (clockN_elapsed d s).sameConfiguration
  | render d m =>
    obtain rfl := answer_eq_next.mp h
    obtain ⟨-, -, n, elapsed⟩ := renderLoop_bounded m d s
    exact elapsed.sameConfiguration
  | _ =>
    obtain rfl := answer_eq_next.mp h
    exact ⟨rfl, rfl, rfl, rfl, rfl, rfl, rfl, rfl, rfl⟩

/-! ## The noise register -/

theorem toNat_lfsrShift (r : BitVec 23) :
    (lfsrShift r).toNat = 2 * (r.toNat % 2 ^ 22) + (r.toNat / 2 ^ 22 + r.toNat / 2 ^ 17) % 2 := by
  refine (toNat_cat (r.extractLsb' 0 22) _).trans ?_
  rw [toNat_field, toNat_ofBool_xor_getLsbD]
  omega

/-- The low 22 bits and the feedback bit give the register back: bit 17 is one of the low bits, so the feedback bit gives bit 22. -/
theorem lfsrShift_injective {r q : BitVec 23} (h : lfsrShift r = lfsrShift q) : r = q := by
  have numbers := congrArg BitVec.toNat h
  have hr := r.isLt
  have hq := q.isLt
  rw [toNat_lfsrShift, toNat_lfsrShift] at numbers
  have low : r.toNat % 2 ^ 22 = q.toNat % 2 ^ 22 := by omega
  have feedback : (r.toNat / 2 ^ 22 + r.toNat / 2 ^ 17) % 2 = (q.toNat / 2 ^ 22 + q.toNat / 2 ^ 17) % 2 := by omega
  have bit17 : r.toNat / 2 ^ 17 % 2 = q.toNat / 2 ^ 17 % 2 := by omega
  apply BitVec.eq_of_toNat_eq
  omega

theorem lfsrShift_ne_zero {r : BitVec 23} (h : r ≠ 0) : lfsrShift r ≠ 0 :=
  fun zero => h (lfsrShift_injective (zero.trans (by decide : (0 : BitVec 23) = lfsrShift 0)))

/-- R438: an all-zero LFSR only under `test`. -/
def Osc.Alive (o : Osc) : Prop := o.test = true ∨ o.shiftRegister ≠ 0

theorem Osc.Alive.one {o : Osc} (h : o.Alive) : o.one.Alive := by
  cases test : o.test with
  | true => rwa [Osc.one_of_test test]
  | false =>
    have nonzero : o.shiftRegister ≠ 0 := h.resolve_left (by rw [test]; decide)
    rw [Osc.one_of_test_clear test rfl]
    refine .inr ?_
    show (if _ then lfsrShift o.shiftRegister else o.shiftRegister) ≠ 0
    split_ifs
    · exact lfsrShift_ne_zero nonzero
    · exact nonzero

/-- R172, R173: leaving `test` reseeds the LFSR. -/
theorem Osc.Alive.writeControl {o : Osc} (h : o.Alive) {cfg : Cfg} (seed : cfg.lfsrReseed ≠ 0) (b : Byte) :
    (o.writeControl cfg b).Alive := by
  cases new : b.getLsbD 3 with
  | true => exact .inl new
  | false =>
    refine .inr ?_
    show (Osc.testEdge cfg (b.getLsbD 3) o).shiftRegister ≠ 0
    rw [new, Osc.testEdge]
    cases old : o.test with
    | true => exact seed
    | false => exact h.resolve_left (by rw [old]; decide)

theorem alive_of_written {b : Byte} {s t : State} (seed : s.cfg.lfsrReseed ≠ 0) (h : ∀ v, (ofVoice s.osc v).Alive)
    (ht : Written b s t) (v : VoiceIdx) : (ofVoice t.osc v).Alive := by
  cases ht with
  | osc w f hf => exact forall_ofVoice_setVoice h (by rw [hf]; exact h w) v
  | control w => exact forall_ofVoice_setVoice h ((h w).writeControl seed b) v
  | attackDecay w | sustainRelease w | filt f | unmapped => exact h v

theorem Elapsed.alive {n : Nat} {s t : State} (ht : Elapsed n s t) (h : ∀ v, (ofVoice s.osc v).Alive) (v : VoiceIdx) :
    (ofVoice t.osc v).Alive := by
  rw [ht.osc]
  exact ofVoice_clockOscillators_iterate_keeps (P := fun _ => Osc.Alive) (fun _ _ => Osc.Alive.one) (fun _ _ _ ho => ho) h n v

theorem alive_of_exec {i : Instr} {s t : State} (hreset : s.cfg.lfsrReset ≠ 0) (hreseed : s.cfg.lfsrReseed ≠ 0)
    (h : ∀ v, (ofVoice s.osc v).Alive) (ht : exec i s = .next t) : ∀ v, (ofVoice t.osc v).Alive := by
  induction i using Instr.kinds with
  | wr o b =>
    rw [exec_decodeWr] at ht
    obtain rfl := done_eq_next.mp ht
    exact fun v => alive_of_written hreseed h (busWrite_written o b s) v
  | rd o =>
    rw [exec_decodeRd] at ht
    obtain rfl := answer_eq_next.mp ht
    exact h
  | clk =>
    obtain rfl := done_eq_next.mp ht
    exact (clockOne_elapsed s).alive h
  | clkn d =>
    obtain rfl := done_eq_next.mp ht
    exact (clockN_elapsed d s).alive h
  | rst =>
    obtain rfl := done_eq_next.mp ht
    exact fun v => by cases v <;> exact .inr hreset
  | render d m =>
    obtain rfl := answer_eq_next.mp ht
    obtain ⟨-, -, n, elapsed⟩ := renderLoop_bounded m d s
    exact elapsed.alive h
  | mute v flag =>
    rw [exec_mute] at ht
    obtain rfl := done_eq_next.mp ht
    exact h
  | extin _ | out | exten _ =>
    obtain rfl := answer_eq_next.mp ht
    exact h
  | model n => obtain ⟨m, rfl⟩ | rfl := execModel_cases ht <;> exact h
  | sampling args => obtain ⟨rs, -, rfl⟩ | ⟨c, -, rfl⟩ := execSampling_cases ht <;> exact h
  | calib points => obtain ⟨p, -, rfl⟩ | ⟨-, rfl⟩ := execCalib_cases ht <;> exact h

/-- Settles O60. -/
theorem lfsrIsZeroOnlyUnderTest : Obligations.LfsrIsZeroOnlyUnderTest := by
  refine ⟨fun _ _ => lfsrShift_injective, by decide, fun _ => lfsrShift_ne_zero, fun s t hreset hreseed h hstep => ?_⟩
  obtain rfl | ⟨rest, i, hexec⟩ := step_eq_next hstep
  · exact h
  · exact alive_of_exec (s := s.setPending rest) hreset hreseed h hexec

end Sys2Proof.Machine
end

section
/-! PROOFS. The step and the operations one at a time: register writes and reads as whole next states, the bus window, RST, MODEL, MUTE
and EXTEN. -/

namespace Sys2Proof.Machine

open Sys2Proof.Claims

/-- Settles O4. -/
theorem writtenOutWordsDecode : Obligations.WrittenOutWordsDecode :=
  ⟨rfl, rfl, rfl, rfl, rfl, rfl, rfl, rfl, rfl, rfl, rfl, rfl, rfl, rfl, rfl, rfl, rfl⟩

/-! ## The step -/

/-- Settles O5. -/
theorem stepRunsTheDecodedOperation : Obligations.StepRunsTheDecodedOperation := by
  intro s c rest i hp hnoise hfilter hdecode
  rw [step_of_cons (variantRefusal_of_clear hnoise hfilter) hp, applyCommand_of_ok hdecode]
  rfl

/-- A placed word is the next command, and the stream behind it is as before. -/
theorem step_withFetchWord {s : State} (hv : variantRefusal s.cfg = none) (w : Word) :
    step (s.withFetchWord 32 w.toNat) = applyCommand (Command.plain w) s := by
  have same : BitVec.ofNat 32 (w.toNat % 2 ^ 32) = w := by rw [Nat.mod_eq_of_lt w.isLt, BitVec.ofNat_toNat, BitVec.setWidth_eq]
  rw [State.withFetchWord, same]
  exact step_of_cons hv rfl

theorem step_of_patchedNoise {s : State} (h : s.cfg.patchedNoise = true) : step s = .refused .patchedNoise := by
  simp only [step, stepOnce, variantRefusal, h, if_true]

theorem step_of_patchedFilter {s : State} (hnoise : s.cfg.patchedNoise = false) (h : s.cfg.patchedFilter = true) :
    step s = .refused .patchedFilter := by
  simp only [step, stepOnce, variantRefusal, hnoise, h, if_true, Bool.false_eq_true, if_false]

/-- Settles O6. -/
theorem stepIdlesPlacesAndRefuses : Obligations.StepIdlesPlacesAndRefuses := by
  refine fun s => ⟨fun hnoise hfilter => ?_, step_of_patchedNoise, step_of_patchedFilter⟩
  have hv := variantRefusal_of_clear hnoise hfilter
  refine ⟨step_of_nil hv, fun w i h => ?_, fun w e h => ?_⟩
  · rw [step_withFetchWord hv, applyCommand_of_ok h]
  · rw [step_withFetchWord hv, applyCommand_of_error h]

/-- What completes with the parameters and the stream of s. -/
def Completes (s : State) (r : Outcome) : Prop := ∃ t, r = .next t ∧ t.cfg = s.cfg ∧ t.pending = s.pending

theorem completes_answer {s t : State} (r : Result) (hcfg : t.cfg = s.cfg) (hp : t.pending = s.pending) :
    Completes s (answer r t) := ⟨_, rfl, hcfg, hp⟩

theorem Written.cfg_pending {b : Byte} {s t : State} (h : Written b s t) : t.cfg = s.cfg ∧ t.pending = s.pending := by
  cases h <;> exact ⟨rfl, rfl⟩

/-- Settles O7. -/
theorem everyOperationCompletes : Obligations.EveryOperationCompletes := by
  intro i s
  change Completes s (exec i s)
  induction i using Instr.kinds with
  | wr o b =>
    obtain ⟨hcfg, hp⟩ := (busWrite_written o b s).cfg_pending
    rw [exec_decodeWr]
    exact completes_answer _ hcfg hp
  | rd o => rw [exec_decodeRd]; exact completes_answer _ rfl rfl
  | clkn d => exact completes_answer _ (clockN_elapsed d s).cfg (clockN_elapsed d s).pending
  | render d m =>
    obtain ⟨-, -, n, elapsed⟩ := renderLoop_bounded m d s
    exact completes_answer _ elapsed.cfg elapsed.pending
  | mute v flag => rw [exec_mute]; exact completes_answer _ rfl rfl
  | model n =>
    change Completes s (execModel n s)
    unfold execModel
    split <;> exact completes_answer _ rfl rfl
  | sampling args =>
    change Completes s (execSampling args s)
    unfold execSampling
    split <;> exact completes_answer _ rfl rfl
  | calib points =>
    change Completes s (execCalib points s)
    unfold execCalib
    split <;> exact completes_answer _ rfl rfl
  | clk | rst | extin _ | out | exten _ => exact completes_answer _ rfl rfl

/-! ## Register writes -/

theorem hiNibble_eq_ofNat (b : Byte) : hiNibble b = BitVec.ofNat 4 (b.toNat / 16) := eq_ofNat_of_toNat (toNat_hiNibble b)

theorem loNibble_eq_ofNat (b : Byte) : loNibble b = BitVec.ofNat 4 (b.toNat % 16) := eq_ofNat_of_toNat (toNat_loNibble b)

theorem withPwHi_eq_ofNat (x : BitVec 12) (b : Byte) : withPwHi x b = BitVec.ofNat 12 (b.toNat % 16 * 256 + x.toNat % 256) :=
  eq_ofNat_of_toNat (toNat_withPwHi x b)

theorem withFcLo_eq_ofNat (x : BitVec 11) (b : Byte) : withFcLo x b = BitVec.ofNat 11 (x.toNat / 8 * 8 + b.toNat % 8) :=
  eq_ofNat_of_toNat (toNat_withFcLo x b)

theorem withFcHi_eq_ofNat (x : BitVec 11) (b : Byte) : withFcHi x b = BitVec.ofNat 11 (b.toNat * 8 + x.toNat % 8) :=
  eq_ofNat_of_toNat (toNat_withFcHi x b)

/-- R172, R173: what the edges of `test` write. -/
theorem Osc.testEdge_eq (cfg : Cfg) (b : Byte) (o : Osc) :
    Osc.testEdge cfg (b.getLsbD 3) o = { o with
      accumulator := if o.test = false ∧ bitOf b 3 = 1 then 0 else o.accumulator
      shiftRegister :=
        if o.test = false ∧ bitOf b 3 = 1 then lfsrAfterTestRise cfg o.shiftRegister
        else if o.test = true ∧ bitOf b 3 = 0 then cfg.lfsrReseed else o.shiftRegister } := by
  simp only [Osc.testEdge, setEdge_getLsbD_iff, clearEdge_getLsbD_iff]
  by_cases rise : o.test = false ∧ bitOf b 3 = 1
  · simp only [if_pos rise]
  · by_cases fall : o.test = true ∧ bitOf b 3 = 0
    · simp only [if_neg rise, if_pos fall]
    · simp only [if_neg rise, if_neg fall]

/-- R144 as one record. -/
theorem Osc.writeControl_eq (cfg : Cfg) (b : Byte) (o : Osc) :
    o.writeControl cfg b = { o with
      waveformSelect := BitVec.ofNat 4 (b.toNat / 16)
      ringMod := decide (bitOf b 2 = 1)
      syncEnable := decide (bitOf b 1 = 1)
      test := decide (bitOf b 3 = 1)
      accumulator := if o.test = false ∧ bitOf b 3 = 1 then 0 else o.accumulator
      shiftRegister :=
        if o.test = false ∧ bitOf b 3 = 1 then lfsrAfterTestRise cfg o.shiftRegister
        else if o.test = true ∧ bitOf b 3 = 0 then cfg.lfsrReseed else o.shiftRegister } := by
  rw [Osc.writeControl, Osc.testEdge_eq, hiNibble_eq_ofNat, getLsbD_eq_decide_bitOf, getLsbD_eq_decide_bitOf,
    getLsbD_eq_decide_bitOf]

/-- R291: a write of CONTROL as a whole next state. -/
theorem done_busControl (v : VoiceIdx) (b : Byte) (s : State) :
    done (busControl v b s) = .next { s with
      osc := setVoice s.osc v ((ofVoice s.osc v).writeControl s.cfg b)
      env := setVoice s.env v ((ofVoice s.env v).writeControl s.cfg b)
      chip := latched b s.chip
      result := .none } := rfl

/-- Settles O9. -/
theorem controlWriteActsOnEdges : Obligations.ControlWriteActsOnEdges := by
  intro v b s
  refine ⟨by cases v <;> rfl, _, (exec_wrControl v b s).trans (done_busControl v b s), ?_⟩
  rw [ofVoice_setVoice_same, Osc.writeControl_eq, lfsrAfterTestRise]
  cases s.cfg.lfsrTestRise <;> rfl

theorem exec_wrPwHi (v : VoiceIdx) (b : Byte) (s : State) : exec (wrPwHi v b) s = done (busPwHi v b s) := by
  cases v <;> rfl

theorem exec_wrAttackDecay (v : VoiceIdx) (b : Byte) (s : State) :
    exec (wrAttackDecay v b) s = done (busAttackDecay v b s) := by cases v <;> rfl

theorem exec_wrSustainRelease (v : VoiceIdx) (b : Byte) (s : State) :
    exec (wrSustainRelease v b) s = done (busSustainRelease v b s) := by cases v <;> rfl

/-- R191: the period is reloaded in ATTACK and in DECAY_SUSTAIN. -/
theorem Env.writeAttackDecay_eq (cfg : Cfg) (b : Byte) (e : Env) :
    e.writeAttackDecay cfg b = { e with
      attack := hiNibble b
      decay := loNibble b
      ratePeriod := if e.state = .attack then ratePeriodAt cfg (hiNibble b)
        else if e.state = .decaySustain then ratePeriodAt cfg (loNibble b) else e.ratePeriod } := by
  unfold Env.writeAttackDecay
  cases e.state <;> rfl

/-- R192: the period is reloaded in RELEASE. -/
theorem Env.writeSustainRelease_eq (cfg : Cfg) (b : Byte) (e : Env) :
    e.writeSustainRelease cfg b = { e with
      sustain := hiNibble b
      release := loNibble b
      ratePeriod := if e.state = .release then ratePeriodAt cfg (loNibble b) else e.ratePeriod } := by
  unfold Env.writeSustainRelease
  cases e.state <;> rfl

/-- R291: a write of one envelope's nibbles as a whole next state. -/
theorem done_modifyEnv_latchBus (v : VoiceIdx) (f : Env → Env) (b : Byte) (s : State) :
    done (modifyEnv v f (latchBus b s)) = .next { s with
      env := setVoice s.env v (f (ofVoice s.env v))
      chip := latched b s.chip
      result := .none } := rfl

/-- Settles O11. -/
theorem nibbleWritesMoveTheirFields : Obligations.NibbleWritesMoveTheirFields := by
  intro v b s
  refine ⟨?_, ?_, ?_, ?_, ?_, ?_⟩
  · cases v <;> rfl
  · cases v <;> rfl
  · cases v <;> rfl
  · rw [exec_wrPwHi, busPwHi, done_modifyOsc_latchBus, Osc.writePwHi, withPwHi_eq_ofNat]
  · rw [exec_wrAttackDecay, busAttackDecay, done_modifyEnv_latchBus, Env.writeAttackDecay_eq, hiNibble_eq_ofNat,
      loNibble_eq_ofNat]
  · rw [exec_wrSustainRelease, busSustainRelease, done_modifyEnv_latchBus, Env.writeSustainRelease_eq, hiNibble_eq_ofNat,
      loNibble_eq_ofNat]

theorem outputSelect_eq_ofNat (b : Byte) : b.extractLsb' 4 3 = BitVec.ofNat 3 (b.toNat / 16 % 8) :=
  eq_ofNat_of_toNat (toNat_field b 4 3)

/-- Settles O12. -/
theorem filterRegisterWritesMoveTheirFields : Obligations.FilterRegisterWritesMoveTheirFields := by
  intro b s
  refine ⟨rfl, rfl, rfl, rfl, ?_, ?_, ?_, ?_⟩
  · rw [← withFcLo_eq_ofNat]; rfl
  · rw [← withFcHi_eq_ofNat]; rfl
  · rw [← hiNibble_eq_ofNat, ← loNibble_eq_ofNat]; rfl
  · rw [← getLsbD_eq_decide_bitOf, ← loNibble_eq_ofNat, ← outputSelect_eq_ofNat]; rfl

/-- Settles O14. -/
theorem writeDispatchByOffset : Obligations.WriteDispatchByOffset := exec_decodeWr

/-- Settles O13. -/
theorem unmappedWritesOnlyLatchTheBus : Obligations.UnmappedWritesOnlyLatchTheBus :=
  fun b s => ⟨rfl, fun _ => rfl, fun _ => rfl, fun _ => rfl, fun _ => rfl, fun _ => rfl,
    fun o h => by rw [exec_decodeWr, busWrite_of_le h]; rfl⟩

/-! ## Register reads -/

/-- Settles O15. -/
theorem potentiometersReadAllOnes : Obligations.PotentiometersReadAllOnes := fun _ => ⟨rfl, rfl, rfl, rfl⟩

theorem osc3Value_eq_ofNat (s : State) :
    osc3Value s = BitVec.ofNat 8 ((waveOutput s.cfg s.chip.chipModel s.osc .v2).toNat / 16) := by
  have bound := (waveOutput s.cfg s.chip.chipModel s.osc .v2).isLt
  refine eq_ofNat_of_toNat ?_
  rw [osc3Value, toNat_field]
  omega

/-- Settles O16. -/
theorem readsReturnSnapshotsOrTheBusValue : Obligations.ReadsReturnSnapshotsOrTheBusValue := by
  intro s
  refine ⟨rfl, rfl, ?_, rfl, fun _ => rfl, fun _ => rfl, rfl, rfl, fun _ => rfl, fun _ => rfl, fun _ => rfl, fun _ => rfl,
    fun o h => ?_⟩
  · rw [← osc3Value_eq_ofNat]; rfl
  · rw [exec_decodeRd, busRead_of_lt_or_lt h]; rfl

theorem Written.chip {b : Byte} {s t : State} (h : Written b s t) : t.chip = (latchBus b s).chip := by
  cases h <;> rfl

/-- R301: the window a WR opens. -/
theorem age_iterate_latchBus (b : Byte) (s : State) (n : Nat) :
    (Chip.age^[n] (latchBus b s).chip).busValue = (if n < 0x2000 then b else 0) ∧
    (Chip.age^[n] (latchBus b s).chip).busValueTtl.toNat = 0x2000 - n := by
  have armed : (latchBus b s).chip.busValueTtl.toNat = 0x2000 := rfl
  rw [Chip.age_iterate_busValue, Chip.toNat_age_iterate_busValueTtl, armed, latchBus_busValue]
  refine ⟨?_, rfl⟩
  split_ifs <;> first | rfl | omega

theorem chipInv_latchBus (b : Byte) (s : State) : chipInv (latchBus b s).chip = true :=
  chipInv_iff.mpr ⟨le_rfl, fun closed => absurd closed (by decide : (0x2000 : BitVec 16).toNat ≠ 0)⟩

/-- Settles O17. -/
theorem busValueDecaysInTheWindow : Obligations.BusValueDecaysInTheWindow := by
  intro o b s n
  have chip := (busWrite_written o b s).chip
  refine ⟨_, _, exec_decodeWr o b s, clkTimes_eq n _, ?_⟩
  rw [(clkState_iterate_elapsed n ((busWrite o b s).setResult .none)).aged (chip ▸ chipInv_latchBus b s), State.setResult_chip, chip]
  exact age_iterate_latchBus b s n

/-! ## RST, MODEL, MUTE, EXTEN, power-on -/

/-- Settles O39. -/
theorem rstSetsEveryRunTimeField : Obligations.RstSetsEveryRunTimeField := by
  intro s
  exact ⟨_, rfl, rfl, fun v => ofVoice_everyVoice _ v, fun v => ofVoice_everyVoice _ v, rfl, rfl, rfl, rfl, rfl, rfl, rfl, rfl,
    rfl, rfl⟩

/-- Settles O41. -/
theorem modelMuteAndExtenSetOneField : Obligations.ModelMuteAndExtenSetOneField := by
  refine fun s => ⟨fun number => ?_, fun v flag => exec_mute v flag s, fun flag => rfl⟩
  show execModel number s = _
  unfold execModel modelOfNumber
  split_ifs <;> rfl

/-- Settles O40. -/
theorem powerOnState : Obligations.PowerOnState := by
  refine ⟨rfl, rfl, rfl, rfl, fun v => by cases v <;> rfl, fun v => by cases v <;> rfl, rfl, rfl, rfl, rfl, rfl, rfl, _, ?_, rfl⟩
  decide +kernel

end Sys2Proof.Machine
end

section
/-! PROOFS. One cycle of an envelope in numbers (42_envelope.md R193 to R205): the cycles with and without a step, a full attack, and the
delay bug. -/

namespace Sys2Proof.Machine

open Sys2Proof.Claims

/-! ## The branches of a cycle -/

/-- R194: the rate counter wraps to `RATE_WRAP_TO`. -/
theorem Env.toNat_nextRate (cfg : Cfg) (e : Env) :
    (e.nextRate cfg).toNat = if e.rateCounter.toNat = 0x7FFF then cfg.rateWrapTo.val else e.rateCounter.toNat + 1 := by
  have bound := e.rateCounter.isLt
  have wrap := cfg.rateWrapTo.isLt
  unfold Env.nextRate
  split_ifs
  · exact Nat.mod_eq_of_lt (by omega)
  · omega
  · omega
  · bv_omega

/-- The rate counter matches in this cycle (R194). -/
def Env.Matches (cfg : Cfg) (e : Env) : Prop := e.nextRate cfg = e.ratePeriod

/-- The exponential counter lets a step through in this cycle (R195). -/
def Env.ExpReached (e : Env) : Prop := e.state = .attack ∨ e.exponentialCounter + 1 = e.exponentialCounterPeriod

theorem Env.matches_iff (cfg : Cfg) (e : Env) :
    e.Matches cfg ↔
      (if e.rateCounter.toNat = 0x7FFF then cfg.rateWrapTo.val else e.rateCounter.toNat + 1) = e.ratePeriod.toNat := by
  rw [Env.Matches, ← BitVec.toNat_inj, Env.toNat_nextRate]

theorem Env.expReached_iff (e : Env) :
    e.ExpReached ↔ e.state = .attack ∨ (e.exponentialCounter.toNat + 1) % 256 = e.exponentialCounterPeriod.toNat := by
  rw [Env.ExpReached, ← BitVec.toNat_inj, BitVec.toNat_add]
  rfl

theorem Env.rateTick_of_matches {cfg : Cfg} {e : Env} (h : e.Matches cfg) : e.rateTick cfg = ({ e with rateCounter := 0 }, true) :=
  if_pos h

theorem Env.rateTick_of_not_matches {cfg : Cfg} {e : Env} (h : ¬e.Matches cfg) :
    e.rateTick cfg = ({ e with rateCounter := e.nextRate cfg }, false) := if_neg h

theorem Env.expTick_of_expReached {e : Env} (h : e.ExpReached) :
    e.expTick = ({ e with exponentialCounter := 0 }, !e.holdZero) := by
  unfold Env.expTick
  by_cases attack : e.state = .attack
  · rw [if_pos attack]
  · rw [if_neg attack, if_pos (h.resolve_left attack)]

theorem Env.expTick_of_not_expReached {e : Env} (h : ¬e.ExpReached) :
    e.expTick = ({ e with exponentialCounter := e.exponentialCounter + 1 }, false) := by
  obtain ⟨attack, reached⟩ := not_or.mp h
  rw [Env.expTick, if_neg attack, if_neg reached]

theorem Env.one_of_not_matches {cfg : Cfg} {e : Env} (h : ¬e.Matches cfg) :
    e.one cfg = { e with rateCounter := e.nextRate cfg } := by
  simp only [Env.one, Env.rateTick_of_not_matches h, Bool.false_eq_true, if_false]

theorem Env.one_of_not_expReached {cfg : Cfg} {e : Env} (h : e.Matches cfg) (hexp : ¬e.ExpReached) :
    e.one cfg = { e with rateCounter := 0, exponentialCounter := e.exponentialCounter + 1 } := by
  have held : ¬({ e with rateCounter := 0 } : Env).ExpReached := hexp
  simp only [Env.one, Env.rateTick_of_matches h, Env.expTick_of_not_expReached held, Bool.false_eq_true, if_true, if_false]

theorem Env.one_of_holdZero {cfg : Cfg} {e : Env} (h : e.Matches cfg) (hexp : e.ExpReached) (hold : e.holdZero = true) :
    e.one cfg = { e with rateCounter := 0, exponentialCounter := 0 } := by
  have reached : ({ e with rateCounter := 0 } : Env).ExpReached := hexp
  simp only [Env.one, Env.rateTick_of_matches h, Env.expTick_of_expReached reached, if_true]
  exact if_neg (by rw [hold]; decide)

theorem Env.one_of_step {cfg : Cfg} {e : Env} (h : e.Matches cfg) (hexp : e.ExpReached) (hold : e.holdZero = false) :
    e.one cfg = (({ e with rateCounter := 0, exponentialCounter := 0 } : Env).amplitudeStep cfg).rederive := by
  have reached : ({ e with rateCounter := 0 } : Env).ExpReached := hexp
  simp only [Env.one, Env.rateTick_of_matches h, Env.expTick_of_expReached reached, if_true]
  exact if_pos (by rw [hold]; decide)

/-- Settles O22. -/
theorem envelopeCycleWithoutStep : Obligations.EnvelopeCycleWithoutStep := by
  intro cfg e
  refine ⟨fun h => ?_, fun h hexp => ?_, fun h hexp hold => ?_⟩
  · rw [Env.one_of_not_matches (fun m => h ((e.matches_iff cfg).mp m)), ← eq_ofNat_of_toNat (e.toNat_nextRate cfg)]
  · exact Env.one_of_not_expReached ((e.matches_iff cfg).mpr h) (fun r => hexp (e.expReached_iff.mp r))
  · exact Env.one_of_holdZero ((e.matches_iff cfg).mpr h) (e.expReached_iff.mpr hexp) hold

/-! ## A cycle with a step -/

theorem toNat_sustainLevel (n : BitVec 4) : (sustainLevel n).toNat = 17 * n.toNat := by
  have bound := n.isLt
  rw [sustainLevel, BitVec.toNat_mul, BitVec.toNat_setWidth]
  show n.toNat % 2 ^ 8 * 17 % 2 ^ 8 = _
  omega

/-- The counter after the step of the current state (R196 to R198), as a number. -/
def Env.steppedCounter (e : Env) : Nat :=
  if e.state = .attack then (e.envelopeCounter.toNat + 1) % 256
  else if e.state = .decaySustain ∧ e.envelopeCounter.toNat = 17 * e.sustain.toNat then e.envelopeCounter.toNat
  else (e.envelopeCounter.toNat + 255) % 256

/-- R196 to R198 as one record. -/
theorem Env.amplitudeStep_eq (cfg : Cfg) (e : Env) :
    e.amplitudeStep cfg = { e with
      envelopeCounter := BitVec.ofNat 8 e.steppedCounter
      state := if e.state = .attack ∧ e.steppedCounter = 255 then .decaySustain else e.state
      ratePeriod := if e.state = .attack ∧ e.steppedCounter = 255 then ratePeriodAt cfg e.decay else e.ratePeriod } := by
  have up : e.envelopeCounter + 1 = BitVec.ofNat 8 ((e.envelopeCounter.toNat + 1) % 256) :=
    eq_ofNat_of_toNat (BitVec.toNat_add _ _)
  have down : e.envelopeCounter - 1 = BitVec.ofNat 8 ((e.envelopeCounter.toNat + 255) % 256) :=
    eq_ofNat_of_toNat (by bv_omega)
  have peak : e.envelopeCounter + 1 = 0xFF ↔ (e.envelopeCounter.toNat + 1) % 256 = 255 := by
    rw [← BitVec.toNat_inj, BitVec.toNat_add]; rfl
  have level : e.envelopeCounter = sustainLevel e.sustain ↔ e.envelopeCounter.toNat = 17 * e.sustain.toNat := by
    rw [← BitVec.toNat_inj, toNat_sustainLevel]
  cases state : e.state with
  | attack =>
    have stepped : e.steppedCounter = (e.envelopeCounter.toNat + 1) % 256 := if_pos state
    simp only [Env.amplitudeStep, Env.attackStep, state, peak, stepped, ← up, true_and]
    split_ifs <;> rfl
  | decaySustain =>
    have stepped : e.steppedCounter = if e.envelopeCounter.toNat = 17 * e.sustain.toNat then e.envelopeCounter.toNat
        else (e.envelopeCounter.toNat + 255) % 256 := by simp [Env.steppedCounter, state]
    simp only [Env.amplitudeStep, Env.decayStep, state, level, stepped, reduceCtorEq, false_and, if_false]
    split_ifs
    · rw [BitVec.ofNat_toNat, BitVec.setWidth_eq, ← state]
    · rw [← down, ← state]
  | release =>
    have stepped : e.steppedCounter = (e.envelopeCounter.toNat + 255) % 256 := by simp [Env.steppedCounter, state]
    simp only [Env.amplitudeStep, Env.releaseStep, state, stepped, ← down, reduceCtorEq, false_and, if_false]

theorem Env.steppedCounter_lt (e : Env) : e.steppedCounter < 256 := by
  have bound := e.envelopeCounter.isLt
  unfold Env.steppedCounter
  split_ifs <;> omega

theorem expPeriodAt_getD (c p : Byte) :
    (expPeriodAt c).getD p =
      if c.toNat = 0xFF then 1 else if c.toNat = 0x5D then 2 else if c.toNat = 0x36 then 4 else if c.toNat = 0x1A then 8
      else if c.toNat = 0x0E then 16 else if c.toNat = 0x06 then 30 else if c.toNat = 0 then 1 else p := by
  unfold expPeriodAt
  split <;> simp_all

/-- R196 to R199: a cycle with a step as one record. -/
theorem Env.one_of_step_eq {cfg : Cfg} {e : Env} (h : e.Matches cfg) (hexp : e.ExpReached) (hold : e.holdZero = false) :
    e.one cfg = { e with
      rateCounter := 0
      exponentialCounter := 0
      envelopeCounter := BitVec.ofNat 8 e.steppedCounter
      state := if e.state = .attack ∧ e.steppedCounter = 255 then .decaySustain else e.state
      ratePeriod := if e.state = .attack ∧ e.steppedCounter = 255 then ratePeriodAt cfg e.decay else e.ratePeriod
      exponentialCounterPeriod :=
        if e.steppedCounter = 0xFF then 1 else if e.steppedCounter = 0x5D then 2 else if e.steppedCounter = 0x36 then 4
        else if e.steppedCounter = 0x1A then 8 else if e.steppedCounter = 0x0E then 16 else if e.steppedCounter = 0x06 then 30
        else if e.steppedCounter = 0 then 1 else e.exponentialCounterPeriod
      holdZero := decide (e.steppedCounter = 0) } := by
  have number : (BitVec.ofNat 8 e.steppedCounter).toNat = e.steppedCounter := Nat.mod_eq_of_lt e.steppedCounter_lt
  have zero : BitVec.ofNat 8 e.steppedCounter = 0 ↔ e.steppedCounter = 0 := by rw [← BitVec.toNat_inj, number]; rfl
  have same : ({ e with rateCounter := 0, exponentialCounter := 0 } : Env).steppedCounter = e.steppedCounter := rfl
  rw [Env.one_of_step h hexp hold, Env.amplitudeStep_eq]
  simp only [Env.rederive, same, expPeriodAt_getD, number, zero]
  rw [hold, Bool.false_or]

/-- Settles O23. -/
theorem envelopeCycleWithStep : Obligations.EnvelopeCycleWithStep := fun cfg e hmatch hexp hold =>
  Env.one_of_step_eq ((e.matches_iff cfg).mpr hmatch) (e.expReached_iff.mpr hexp) hold

/-! ## A full attack (R205) -/

/-- The envelope k cycles into an attack from rest: the counter is the number of whole periods. -/
structure Rising (cfg : Cfg) (e : Env) (k : Nat) (f : Env) : Prop where
  counter : f.envelopeCounter.toNat = k / e.ratePeriod.toNat
  rate : f.rateCounter.toNat = k % e.ratePeriod.toNat
  state : f.state = if k < 255 * e.ratePeriod.toNat then .attack else .decaySustain
  period : f.ratePeriod = if k < 255 * e.ratePeriod.toNat then e.ratePeriod else ratePeriodAt cfg e.decay
  running : k < 255 * e.ratePeriod.toNat → f.holdZero = false
  decay : f.decay = e.decay

/-- The last cycle of a period, and every other. -/
theorem succ_div_mod (k : Nat) {p : Nat} (hp : 0 < p) :
    (k % p + 1 = p → (k + 1) / p = k / p + 1 ∧ (k + 1) % p = 0) ∧
    (k % p + 1 ≠ p → (k + 1) / p = k / p ∧ (k + 1) % p = k % p + 1) := by
  have whole := Nat.mod_add_div k p
  have part := Nat.mod_lt k hp
  refine ⟨fun last => (Nat.div_mod_unique hp).mpr ⟨?_, hp⟩, fun early => (Nat.div_mod_unique hp).mpr ⟨by omega, by omega⟩⟩
  rw [Nat.mul_add, Nat.mul_one]
  omega

theorem Rising.one {cfg : Cfg} {e f : Env} {k : Nat} (h : Rising cfg e k f) (hk : k < 255 * e.ratePeriod.toNat) :
    Rising cfg e (k + 1) (f.one cfg) := by
  obtain ⟨counter, rate, state, period, running, decay⟩ := h
  have pos : 0 < e.ratePeriod.toNat := by omega
  have bound := e.ratePeriod.isLt
  have part := Nat.mod_lt k pos
  have low : k / e.ratePeriod.toNat < 255 := (Nat.div_lt_iff_lt_mul pos).mpr hk
  have attack : k + 1 < 255 * e.ratePeriod.toNat ↔ (k + 1) / e.ratePeriod.toNat < 255 := (Nat.div_lt_iff_lt_mul pos).symm
  obtain ⟨on_match, on_miss⟩ := succ_div_mod k pos
  rw [if_pos hk] at state period
  have next := f.toNat_nextRate cfg
  rw [if_neg (by omega), rate] at next
  by_cases last : k % e.ratePeriod.toNat + 1 = e.ratePeriod.toNat
  · obtain ⟨div, mod⟩ := on_match last
    have reached : f.Matches cfg := by
      rw [Env.Matches, period, ← BitVec.toNat_inj, next]
      exact last
    have stepped : f.steppedCounter = (k + 1) / e.ratePeriod.toNat := by
      rw [Env.steppedCounter, if_pos state, counter, div]
      omega
    have peak : (f.state = .attack ∧ f.steppedCounter = 255) ↔ ¬k + 1 < 255 * e.ratePeriod.toNat := by
      rw [attack, stepped]
      exact ⟨fun h => by omega, fun h => ⟨state, by omega⟩⟩
    rw [Env.one_of_step_eq reached (.inl state) (running hk)]
    exact {
      counter := (Nat.mod_eq_of_lt f.steppedCounter_lt).trans stepped
      rate := mod.symm
      state := by simp only [peak, ite_not]; rw [state]
      period := by simp only [peak, ite_not]; rw [period, decay]
      running := fun _ => decide_eq_false (by omega)
      decay := decay }
  · obtain ⟨div, mod⟩ := on_miss last
    have missed : ¬f.Matches cfg := by
      rw [Env.Matches, period, ← BitVec.toNat_inj, next]
      exact last
    have early : k + 1 < 255 * e.ratePeriod.toNat := attack.mpr (by omega)
    rw [Env.one_of_not_matches missed]
    exact {
      counter := counter.trans div.symm
      rate := next.trans mod.symm
      state := by rw [if_pos early]; exact state
      period := by rw [if_pos early]; exact period
      running := fun _ => running hk
      decay := decay }

/-- Settles O25. -/
theorem fullAttackTakes255Periods : Obligations.FullAttackTakes255Periods := by
  intro cfg e k state running counter rate pos hk
  have rising : Rising cfg e k ((Env.one cfg)^[k] e) := by
    induction k with
    | zero =>
      have start : 0 < 255 * e.ratePeriod.toNat := by omega
      exact {
        counter := by rw [Nat.zero_div]; exact congrArg BitVec.toNat counter
        rate := by rw [Nat.zero_mod]; exact congrArg BitVec.toNat rate
        state := by rw [if_pos start]; exact state
        period := by rw [if_pos start]; rfl
        running := fun _ => running
        decay := rfl }
    | succ k ih =>
      rw [Function.iterate_succ_apply']
      exact (ih (by omega)).one (by omega)
  exact ⟨rising.counter, rising.state, rising.period, rising.rate⟩

/-! ## The delay bug (R201) -/

/-- The rate counter after k cycles without a match: it counts up, and wraps once. -/
def Env.delayedRate (cfg : Cfg) (e : Env) (k : Nat) : Nat :=
  if e.rateCounter.toNat + k ≤ 0x7FFF then e.rateCounter.toNat + k
  else cfg.rateWrapTo.val + (e.rateCounter.toNat + k - 0x8000)

/-- The cycles to the match (R201). -/
def Env.delay (cfg : Cfg) (e : Env) : Nat := 0x8000 - e.rateCounter.toNat + e.ratePeriod.toNat - cfg.rateWrapTo.val

/-- The envelope after k cycles of the delay. -/
def Env.delayed (cfg : Cfg) (e : Env) (k : Nat) : Env := { e with rateCounter := BitVec.ofNat 15 (e.delayedRate cfg k) }

theorem Env.toNat_nextRate_delayed {cfg : Cfg} {e : Env} (pos : 0 < e.ratePeriod.toNat) {k : Nat} (hk : k < e.delay cfg) :
    ((e.delayed cfg k).nextRate cfg).toNat = e.delayedRate cfg (k + 1) := by
  have wrap := cfg.rateWrapTo.isLt
  have period := e.ratePeriod.isLt
  have rate := e.rateCounter.isLt
  have now : (e.delayed cfg k).rateCounter.toNat = e.delayedRate cfg k := by
    refine Nat.mod_eq_of_lt ?_
    unfold Env.delay at hk
    unfold Env.delayedRate
    split_ifs <;> omega
  rw [Env.toNat_nextRate, now]
  unfold Env.delay at hk
  unfold Env.delayedRate
  split_ifs <;> omega

section
variable {cfg : Cfg} {e : Env} (pos : 0 < e.ratePeriod.toNat) (behind : e.ratePeriod.toNat ≤ e.rateCounter.toNat)
include pos behind

/-- In the delay the rate counter matches in the last cycle and in no other. -/
theorem Env.delayed_matches_iff {k : Nat} (hk : k < e.delay cfg) : (e.delayed cfg k).Matches cfg ↔ k + 1 = e.delay cfg := by
  have wrap := cfg.rateWrapTo.isLt
  have period := e.ratePeriod.isLt
  have rate := e.rateCounter.isLt
  have same : (e.delayed cfg k).ratePeriod.toNat = e.ratePeriod.toNat := rfl
  rw [Env.Matches, ← BitVec.toNat_inj, Env.toNat_nextRate_delayed pos hk, same]
  unfold Env.delay at hk ⊢
  unfold Env.delayedRate
  split_ifs <;> omega

theorem Env.one_iterate_eq_delayed {k : Nat} (hk : k < e.delay cfg) : (Env.one cfg)^[k] e = e.delayed cfg k := by
  induction k with
  | zero =>
    have start : e.delayedRate cfg 0 = e.rateCounter.toNat := if_pos (by have := e.rateCounter.isLt; omega)
    rw [Env.delayed, start, BitVec.ofNat_toNat, BitVec.setWidth_eq]
    rfl
  | succ k ih =>
    have missed : ¬(e.delayed cfg k).Matches cfg := fun h => by
      have := (Env.delayed_matches_iff pos behind (by omega)).mp h
      omega
    rw [Function.iterate_succ_apply', ih (by omega), Env.one_of_not_matches missed,
      eq_ofNat_of_toNat (Env.toNat_nextRate_delayed pos (by omega))]
    rfl

end

theorem Env.expTick_rateCounter (e : Env) : e.expTick.1.rateCounter = e.rateCounter := by
  unfold Env.expTick
  split_ifs <;> rfl

theorem Env.amplitudeStep_rateCounter (cfg : Cfg) (e : Env) : (e.amplitudeStep cfg).rateCounter = e.rateCounter := by
  rw [Env.amplitudeStep_eq]

/-- A match zeroes the rate counter, whatever the step does. -/
theorem Env.one_rateCounter_of_matches {cfg : Cfg} {e : Env} (h : e.Matches cfg) : (e.one cfg).rateCounter = 0 := by
  simp only [Env.one, Env.rateTick_of_matches h, if_true]
  split_ifs
  · exact (Env.amplitudeStep_rateCounter cfg _).trans (Env.expTick_rateCounter _)
  · exact Env.expTick_rateCounter _

theorem Env.rateTick_snd_iff (cfg : Cfg) (e : Env) : (e.rateTick cfg).2 = true ↔ e.Matches cfg := by
  by_cases h : e.Matches cfg
  · simp [Env.rateTick_of_matches h, h]
  · simp [Env.rateTick_of_not_matches h, h]

/-- Settles O26. -/
theorem adsrDelayBug : Obligations.AdsrDelayBug := by
  intro cfg e pos behind
  have wrap := cfg.rateWrapTo.isLt
  have rate := e.rateCounter.isLt
  refine ⟨fun k hk => ⟨_, Env.one_iterate_eq_delayed pos behind hk, ?_⟩, ?_⟩
  · exact (Env.rateTick_snd_iff cfg _).trans (Env.delayed_matches_iff pos behind hk)
  · obtain ⟨k, hk⟩ : ∃ k, e.delay cfg = k + 1 := Nat.exists_eq_succ_of_ne_zero (by unfold Env.delay; omega)
    have early : k < e.delay cfg := by omega
    show ((Env.one cfg)^[e.delay cfg] e).rateCounter = 0
    rw [hk, Function.iterate_succ_apply', Env.one_iterate_eq_delayed pos behind early]
    exact Env.one_rateCounter_of_matches ((Env.delayed_matches_iff pos behind early).mpr hk.symm)

end Sys2Proof.Machine
end

section
/-! PROOFS. CLK and CLKN (46_chip_assembly.md R300, R303, 44_filter.md R253, R255, 45_output_stage.md R281 to R284): the digital part, the
analog steps in integers, the bulk steps. -/

namespace Sys2Proof.Machine

open Sys2Proof.Claims

/-! ## The digital part -/

/-- Settles O27. -/
theorem clkAdvancesTheDigitalPart : Obligations.ClkAdvancesTheDigitalPart := by
  intro s
  have elapsed := (clockOne_elapsed s).setResult .none
  exact ⟨_, rfl, rfl, rfl, s.chip.toNat_age_busValueTtl, s.chip.age_busValue, s.chip.age_externalInput, s.chip.age_chipModel,
    elapsed.filt, (congrArg Extf.enabled elapsed.extf :), elapsed.cfg, elapsed.muted, elapsed.calib, rfl, elapsed.pending,
    elapsed.installs, rfl⟩

theorem clockEnvelopes_iterate (cfg : Cfg) (d : Nat) (envs : PerVoice Env) :
    (clockEnvelopes cfg)^[d] envs = mapVoices (fun e => (Env.one cfg)^[d] e) envs :=
  perVoice_ext fun v => by rw [ofVoice_clockEnvelopes_iterate, ofVoice_mapVoices]

/-- CLKN d: the bus aged and the voices advanced by d cycles, on which the bulk steps run (R303 steps 1 to 3). -/
def voicesAdvanced (d : Nat) (s : State) : State :=
  { s with
    chip := { s.chip with
      busValueTtl := BitVec.ofNat 16 (s.chip.busValueTtl.toNat - d)
      busValue := if s.chip.busValueTtl.toNat ≤ d then 0 else s.chip.busValue }
    env := mapVoices (fun e => (Env.one s.cfg)^[d] e) s.env
    osc := clockOscillators^[d] s.osc
    result := .none }

theorem clockN_setResult {d : Nat} (pos : 0 < d) (s : State) :
    (clockN d s).setResult .none = outputBulk d (filterBulk d (voicesAdvanced d s)) := by
  rw [clockN_of_pos pos, clockEnvelopes_iterate, voicesAdvanced, ← Chip.ageBy_busValue]
  rfl

/-- Settles O29. -/
theorem clknClocksDeltaCyclesAtOnce : Obligations.ClknClocksDeltaCyclesAtOnce := fun d s =>
  ⟨rfl, fun pos => ⟨voicesAdvanced d s, _, congrArg Host.Outcome.next (clockN_setResult pos s), rfl, rfl, rfl⟩⟩

/-- Settles O31. -/
theorem clknIsClkTimesInTheDigitalPart : Obligations.ClknIsClkTimesInTheDigitalPart := fun d s h =>
  ⟨_, _, rfl, clkTimes_eq d s, ((clockN_elapsed d s).setResult .none).digital_eq (clkState_iterate_elapsed d s) h⟩

/-! ## 32-bit arithmetic as wrapped integers (R15) -/

@[simp] theorem wrap32_toInt (x : S32) : wrap32 x.toInt = x := BitVec.ofInt_toInt

theorem wrap32_add (a b : Int) : wrap32 (a + b) = wrap32 a + wrap32 b := BitVec.ofInt_add ..

theorem wrap32_mul (a b : Int) : wrap32 (a * b) = wrap32 a * wrap32 b := BitVec.ofInt_mul ..

theorem wrap32_neg (a : Int) : wrap32 (-a) = -wrap32 a := BitVec.ofInt_neg

theorem wrap32_sub (a b : Int) : wrap32 (a - b) = wrap32 a - wrap32 b := by
  rw [sub_eq_add_neg, wrap32_add, wrap32_neg, BitVec.sub_eq_add_neg]

theorem wrap32_natCast (k : Nat) : wrap32 k = BitVec.ofNat 32 k := BitVec.ofInt_natCast ..

/-- A shift is a floor division of an s32. -/
theorem wrap32_toInt_div (x : S32) (k : Nat) : wrap32 (x.toInt / 2 ^ k) = asr x k := by
  rw [← toInt_asr, wrap32_toInt]

theorem toInt_wrap32_of_range {z : Int} (low : -2 ^ 31 ≤ z) (high : z < 2 ^ 31) : (wrap32 z).toInt = z := by
  rw [wrap32, BitVec.toInt_ofInt, Int.bmod_eq_of_le (by omega) (by omega)]

/-! ## The steps in integers -/

theorem highpassFrom_toInt (q vi bp lp : S32) : highpassFrom q.toInt vi.toInt bp.toInt lp.toInt = highpassOf q vi bp lp := by
  simp only [highpassFrom, wrap32_sub, wrap32_toInt_div, wrap32_mul, wrap32_toInt, highpassOf]

theorem integrated_toInt (shift : Nat) (w x y : S32) : integrated shift w.toInt x.toInt y.toInt = x - asr (w * y) shift := by
  simp only [integrated, wrap32_sub, wrap32_toInt_div, wrap32_mul, wrap32_toInt]

/-- R253 in integers, in the order of `FILTER_ORDER`. -/
theorem Filt.integrate_doc (w : S32) (shift : Nat) (q vi : S32) (f : Filt) :
    let g := f.integrate .doc w shift q vi
    g.highpassState = highpassFrom q.toInt vi.toInt f.bandpassState.toInt f.lowpassState.toInt ∧
    g.bandpassState = integrated shift w.toInt f.bandpassState.toInt g.highpassState.toInt ∧
    g.lowpassState = integrated shift w.toInt f.lowpassState.toInt g.bandpassState.toInt := by
  simp only [highpassFrom_toInt, integrated_toInt]
  exact ⟨rfl, rfl, rfl⟩

theorem Filt.integrate_reference (w : S32) (shift : Nat) (q vi : S32) (f : Filt) :
    let g := f.integrate .reference w shift q vi
    g.bandpassState = integrated shift w.toInt f.bandpassState.toInt f.highpassState.toInt ∧
    g.lowpassState = integrated shift w.toInt f.lowpassState.toInt f.bandpassState.toInt ∧
    g.highpassState = highpassFrom q.toInt vi.toInt g.bandpassState.toInt g.lowpassState.toInt := by
  simp only [highpassFrom_toInt, integrated_toInt]
  exact ⟨rfl, rfl, rfl⟩

/-- R281 in integers. -/
theorem Extf.one_eq (cfg : Cfg) (vi : S32) (x : Extf) :
    x.one cfg vi = { x with
      out := wrap32 (x.lowpassState.toInt - x.highpassState.toInt)
      lowpassState := wrap32 (x.lowpassState.toInt +
        (wrap32 (cfg.extfW0LP.toInt / 2 ^ 8 * (wrap32 (vi.toInt - x.lowpassState.toInt)).toInt)).toInt / 2 ^ 12)
      highpassState := wrap32 (x.highpassState.toInt +
        (wrap32 (cfg.extfW0HP.toInt *
          (wrap32 ((x.hpTarget cfg.extfHpTracks vi).toInt - x.highpassState.toInt)).toInt)).toInt / 2 ^ 20) } := by
  simp only [wrap32_sub, wrap32_add, wrap32_mul, wrap32_toInt, wrap32_toInt_div]
  rfl

/-- R284 in integers. -/
theorem Extf.bulkStep_eq (cfg : Cfg) (vi : S32) (k : Nat) (x : Extf) :
    x.bulkStep cfg vi k = { x with
      out := wrap32 (x.lowpassState.toInt - x.highpassState.toInt)
      lowpassState := wrap32 (x.lowpassState.toInt +
        (wrap32 ((wrap32 (cfg.extfW0LP.toInt * k)).toInt / 2 ^ 8 *
          (wrap32 (vi.toInt - x.lowpassState.toInt)).toInt)).toInt / 2 ^ 12)
      highpassState := wrap32 (x.highpassState.toInt +
        (wrap32 ((wrap32 (cfg.extfW0HP.toInt * k)).toInt *
          (wrap32 ((x.hpTarget cfg.extfHpTracks vi).toInt - x.highpassState.toInt)).toInt)).toInt / 2 ^ 20) } := by
  simp only [wrap32_sub, wrap32_add, wrap32_mul, wrap32_toInt, wrap32_toInt_div, wrap32_natCast]
  rfl

/-- R283 in integers. -/
theorem Extf.passThrough_eq (cfg : Cfg) (m : ChipModel) (vi : S32) (x : Extf) :
    x.passThrough cfg m vi = { x with
      lowpassState := 0, highpassState := 0, out := wrap32 (vi.toInt - (perModel cfg.extfDC m).toInt) } := by
  simp only [wrap32_sub, wrap32_toInt]
  rfl

theorem routedSum_eq_wrap32 (s : State) : routedSum s.filt.routing (mixInputs s) = wrap32 (inputSum s 1) := by
  rw [← toInt_routedSum, wrap32_toInt]

theorem unroutedSum_eq_wrap32 (s : State) : unroutedSum s.filt.routing (mixInputs s) = wrap32 (inputSum s 0) := by
  rw [← toInt_unroutedSum, wrap32_toInt]

/-! ## CLK -/

/-- The state whose voices, filter inputs and external input this cycle's filter step reads (R300 steps 1 to 4). -/
def voicesClocked (s : State) : State := clockVoices (ageBus s)

theorem w0ForClk_voicesClocked (s : State) : w0ForClk (voicesClocked s) = w0ForClk s := by
  have model : (voicesClocked s).chip.chipModel = s.chip.chipModel := s.chip.age_chipModel
  rw [w0ForClk, w0, model]
  rfl

/-- Settles O28. -/
theorem clkStepsTheAnalogPart : Obligations.ClkStepsTheAnalogPart := by
  intro s t h
  obtain rfl := done_eq_next.mp h
  have inputs (bit : Nat) : inputSum ((clockOne s).setResult .none) bit = inputSum (voicesClocked s) bit :=
    (inputSum_setResult_outputOne .none (filterOne (voicesClocked s)) bit).trans (inputSum_filterOne (voicesClocked s) bit)
  have filt : ((clockOne s).setResult .none).filt =
      (storeUnfiltered (voicesClocked s)).integrate s.cfg.filterOrder (w0ForClk s) 20 (invQAt s.cfg s.filt.resonance)
        (routedSum (voicesClocked s).filt.routing (mixInputs (voicesClocked s))) := by
    rw [← w0ForClk_voicesClocked s]
    rfl
  have extf : ((clockOne s).setResult .none).extf =
      if s.extf.enabled then s.extf.one s.cfg (filterOutput ((clockOne s).setResult .none))
      else s.extf.passThrough s.cfg s.chip.chipModel (filterOutput ((clockOne s).setResult .none)) := by
    rw [← s.chip.age_chipModel]
    rfl
  rw [inputs, inputs]
  refine ⟨?_, fun order => ?_, fun order => ?_, fun enabled => ?_, fun disabled => ?_⟩
  · rw [← toInt_unroutedSum, ← filterOne_unfilteredSum]
    rfl
  · rw [filt, order, ← toInt_routedSum]
    exact Filt.integrate_doc ..
  · rw [filt, order, ← toInt_routedSum]
    exact Filt.integrate_reference ..
  · rw [extf, if_pos enabled, Extf.one_eq]
    cases s.cfg.extfHpTracks <;> exact ⟨rfl, rfl, rfl⟩
  · rw [extf, if_neg (by rw [disabled]; decide), Extf.passThrough_eq]
    exact ⟨rfl, rfl, rfl⟩

/-! ## CLKN -/

/-- The sub-steps of R255 and R284 over n cycles: whole ones, and one for the remainder. -/
def subStepSizes (step n : Nat) : List Nat :=
  List.replicate (n / step) step ++ (if n % step = 0 then [] else [n % step])

theorem subStepSizes_of_lt {step n : Nat} (h0 : n ≠ 0) (h : n < step) : subStepSizes step n = [n] := by
  rw [subStepSizes, Nat.div_eq_of_lt h, Nat.mod_eq_of_lt h, if_neg h0]
  rfl

theorem subStepSizes_of_le {step n : Nat} (pos : 0 < step) (h : step ≤ n) :
    subStepSizes step n = step :: subStepSizes step (n - step) := by
  rw [subStepSizes, subStepSizes, Nat.div_eq_sub_div pos h, Nat.mod_eq_sub_mod h]
  rfl

theorem subSteps_eq_foldl {α : Type} {step : Nat} (pos : 0 < step) (f : Nat → α → α) {fuel n : Nat} (enough : n ≤ fuel) (a : α) :
    subSteps step f fuel n a = (subStepSizes step n).foldl (fun a k => f k a) a := by
  induction fuel generalizing n a with
  | zero =>
    obtain rfl := Nat.le_zero.mp enough
    simp [subSteps, subStepSizes]
  | succ fuel ih =>
    by_cases h0 : n = 0
    · subst h0
      simp [subSteps, subStepSizes]
    · rw [subSteps, if_neg h0, ih (by omega)]
      obtain small | large := lt_or_ge n step
      · rw [subStepSizes_of_lt h0 small, Nat.min_eq_left small.le, Nat.sub_self]
        simp [subStepSizes]
      · rw [subStepSizes_of_le pos large, Nat.min_eq_right large]
        rfl

theorem bulkSteps_pos {cfg : Cfg} (h : cfg.wf = true) : 0 < cfg.filtBulkStep ∧ 0 < cfg.extfBulkStep := by
  simp only [Cfg.wf, Bool.and_eq_true, decide_eq_true_eq] at h
  obtain ⟨⟨⟨⟨⟨⟨⟨⟨⟨-, filt⟩, extf⟩, -⟩, -⟩, -⟩, -⟩, -⟩, -⟩, -⟩ := h
  exact ⟨filt, extf⟩

/-- Settles O30. -/
theorem bulkSubStepsPartitionTheCycles : Obligations.BulkSubStepsPartitionTheCycles := by
  refine ⟨fun d s wf => ?_, fun order w q vi k f => ?_, fun cfg vi k x => ?_⟩
  · obtain ⟨filt, extf⟩ := bulkSteps_pos wf
    refine ⟨?_, fun enabled => ?_, fun disabled => ?_⟩
    · rw [← routedSum_eq_wrap32, ← unroutedSum_eq_wrap32]
      exact subSteps_eq_foldl filt _ le_rfl _
    · exact (if_pos enabled).trans (subSteps_eq_foldl extf _ le_rfl _)
    · exact (if_neg (by rw [disabled]; decide)).trans (Extf.passThrough_eq ..)
  · have cycles : (wrap32 (w.toInt * k)).toInt / 2 ^ 6 = (asr (w * BitVec.ofNat 32 k) 6).toInt := by
      rw [toInt_asr, wrap32_mul, wrap32_toInt, wrap32_natCast]
    simp only [cycles]
    cases order with
    | doc => exact ⟨rfl, Filt.integrate_doc ..⟩
    | reference => exact ⟨rfl, Filt.integrate_reference ..⟩
  · refine (Extf.bulkStep_eq cfg vi k x).trans ?_
    cases cfg.extfHpTracks <;> rfl

end Sys2Proof.Machine
end

section
/-! PROOFS. The convolutions, the ring and one iteration of RENDER under each strategy (47_resampler.md R350 to R355). -/

namespace Sys2Proof.Machine

open Sys2Proof.Claims

/-! ## Sample arithmetic in integers -/

theorem sext32_eq_wrap32 (y : S16) : sext32 y = wrap32 y.toInt := by
  apply BitVec.eq_of_toInt_eq
  have bounds := BitVec.toInt_lt (x := y)
  have bounds' := BitVec.le_toInt (x := y)
  rw [toInt_wrap32_of_range (by omega) (by omega), sext32, BitVec.toInt_signExtend_of_le (by decide)]

/-- The low 16 bits of an s32, as a remainder. -/
theorem lowBits_eq_wrap32 (x : S32) : x &&& 0xFFFF = wrap32 (x.toInt % 65536) := by
  have low : (x &&& 0xFFFF).toNat = x.toNat % 2 ^ 16 := by
    rw [BitVec.toNat_and]
    exact Nat.and_two_pow_sub_one_eq_mod x.toNat 16
  have rest : x.toInt % 65536 = (x.toNat % 2 ^ 16 : Nat) := by
    rw [BitVec.toInt_eq_toNat_cond]
    split_ifs <;> omega
  rw [rest, wrap32_natCast]
  exact eq_ofNat_of_toNat low

theorem lowHalf_wrap32 (z : Int) : (wrap32 z).extractLsb' 0 16 = BitVec.ofInt 16 z := by
  apply BitVec.eq_of_toNat_eq
  rw [toNat_field, wrap32, BitVec.toNat_ofInt, BitVec.toNat_ofInt]
  omega

theorem toInt_sat16 (z : Int) : (sat16 z).toInt = clamp16 z := by
  unfold sat16 clamp16
  split_ifs with low high
  · rw [max_eq_left (by omega)]; rfl
  · rw [min_eq_left (by omega)]; rfl
  · rw [BitVec.toInt_ofInt, Int.bmod_eq_of_le (by omega) (by omega)]; omega

/-! ## The convolutions (R352) -/

/-- A sum of s32 terms is the exact sum, wrapped once. -/
theorem foldl_add_wrap32 (f : Nat → Int) (l : List Nat) (a : Int) :
    l.foldl (fun acc j => acc + wrap32 (f j)) (wrap32 a) = wrap32 (a + (l.map f).sum) := by
  induction l generalizing a with
  | nil => simp
  | cons j rest ih => rw [List.foldl_cons, ← wrap32_add, ih, List.map_cons, List.sum_cons, add_assoc]

theorem convolve_eq (rs : Resampler) (window : Nat → S16) (t : Int) :
    convolve rs window t =
      wrap32 ((List.range rs.firN).map (fun j => (window j).toInt * (firEntry rs t j).toInt)).sum := by
  simp only [convolve, sext32_eq_wrap32, ← wrap32_mul]
  exact (foldl_add_wrap32 _ _ 0).trans (by rw [zero_add])

theorem tablePhase_eq (rs : Resampler) :
    rs.sampleOffset * BitVec.ofNat 32 rs.firRes = wrap32 (rs.sampleOffset.toInt * rs.firRes) := by
  rw [wrap32_mul, wrap32_toInt, wrap32_natCast]

theorem tableIndex_eq (rs : Resampler) :
    tableIndex rs = (wrap32 (rs.sampleOffset.toInt * rs.firRes)).toInt / 65536 := by
  rw [tableIndex, tablePhase_eq, toInt_asr]
  rfl

theorem tablePosition_eq (rs : Resampler) :
    tablePosition rs = wrap32 ((wrap32 (rs.sampleOffset.toInt * rs.firRes)).toInt % 65536) := by
  rw [tablePosition, tablePhase_eq, lowBits_eq_wrap32]

/-- The blend of R352 in integers. -/
theorem blend_eq (position : Int) (v1 v2 : S32) :
    v1 + asr (wrap32 position * (v2 - v1)) 16 =
      wrap32 (v1.toInt + (wrap32 (position * (v2.toInt - v1.toInt))).toInt / 2 ^ 16) := by
  simp only [wrap32_add, wrap32_toInt_div, wrap32_mul, wrap32_sub, wrap32_toInt]

/-- Settles O51. -/
theorem convolutionsAreSumsOfProducts : Obligations.ConvolutionsAreSumsOfProducts := by
  intro cfg rs dot phase t v1 v2
  have window (w : Nat → S16) (i : Int) : (convolve rs w i).toInt = dot w i := congrArg BitVec.toInt (convolve_eq rs w i)
  have first : (firstConvolution cfg rs).toInt = v1 := by rw [firstConvolution, window, tableIndex_eq]
  have second : (secondConvolution cfg rs).toInt = v2 := by
    rw [secondConvolution, tableIndex_eq, apply_ite BitVec.toInt, window, window]
  refine ⟨first, ?_⟩
  simp only [blendedConvolution]
  rw [tablePosition_eq, blend_eq, first, second]
  rfl

/-! ## The ring (R354) -/

theorem historyRead_pushSample {s : State} (wf : historyWf s.cfg.ringSize s.rs.sampleHistory = true) (i : Nat) :
    historyRead (pushSample s).rs.sampleHistory i =
      if i = s.rs.sampleIndex then rawOutput (clockOne s) else historyRead s.rs.sampleHistory i := by
  split_ifs with here
  · rw [here]
    exact historyRead_write_same _ _ wf
  · exact historyRead_write_of_ne here _

/-- The place in the ring, `back` before the write position, plus i. -/
def ringPlace (size index back i : Nat) : Nat := (((index : Int) - back + i) % (size : Int)).toNat

theorem ringEntry_eq (cfg : Cfg) (rs : Resampler) (back i : Nat) :
    ringEntry cfg rs back i = historyRead rs.sampleHistory (ringPlace cfg.ringSize rs.sampleIndex back i) := rfl

/-- The write position moved on by one moves every place on by one. -/
theorem ringPlace_next (size index back i : Nat) :
    ringPlace size ((index + 1) % size) back i = ringPlace size index back (i + 1) := by
  have moved := ((Int.mod_modEq ((index : Int) + 1) size).sub_right (back : Int)).add_right (i : Int)
  have same : (index : Int) + 1 - back + i = index - back + (i + 1 : Nat) := by omega
  rw [same] at moved
  exact congrArg Int.toNat moved

theorem ringPlace_succ_succ (size index back i : Nat) :
    ringPlace size index (back + 1) (i + 1) = ringPlace size index back i := by
  have same : (index : Int) - (back + 1 : Nat) + (i + 1 : Nat) = index - back + i := by omega
  rw [ringPlace, same, ringPlace]

theorem ringEntry_succ_succ (cfg : Cfg) (rs : Resampler) (back i : Nat) :
    ringEntry cfg rs (back + 1) (i + 1) = ringEntry cfg rs back i := by
  rw [ringEntry_eq, ringPlace_succ_succ, ← ringEntry_eq]

/-- As many places on as back is the write position. -/
theorem ringPlace_self {size index : Nat} (inside : index < size) (back : Nat) : ringPlace size index back back = index := by
  rw [ringPlace, sub_add_cancel, Int.emod_eq_of_lt (by omega) (by omega), Int.toNat_natCast]

/-- Fewer places on than back is not the write position, in a window shorter than the ring. -/
theorem ringPlace_ne {size index back i : Nat} (inside : index < size) (short : back < size) (h : i < back) :
    ringPlace size index back i ≠ index := by
  intro place
  have nonneg : 0 ≤ ((index : Int) - back + i) % size := Int.emod_nonneg _ (by omega)
  have wrapped : ((index : Int) - back + i) ≡ index [ZMOD size] := by
    rw [ringPlace] at place
    rw [Int.ModEq, Int.emod_eq_of_lt (a := (index : Int)) (by omega) (by omega)]
    omega
  have multiple : (size : Int) ∣ (back : Int) - i := by
    have gap : (index : Int) - (index - back + i) = back - i := by omega
    exact gap ▸ wrapped.dvd
  have large := Int.le_of_dvd (by omega) multiple
  omega

/-- An entry of the window after a push: the one that stood after it, unless that is the new one. -/
theorem ringEntry_pushSample {s : State} (wf : historyWf s.cfg.ringSize s.rs.sampleHistory = true) (back i : Nat) :
    ringEntry s.cfg (pushSample s).rs back i =
      if ringPlace s.cfg.ringSize s.rs.sampleIndex back (i + 1) = s.rs.sampleIndex then rawOutput (clockOne s)
      else ringEntry s.cfg s.rs back (i + 1) := by
  have index : (pushSample s).rs.sampleIndex = (s.rs.sampleIndex + 1) % s.cfg.ringSize := rfl
  rw [ringEntry_eq, ringEntry_eq, index, ringPlace_next, historyRead_pushSample wf]

/-- Settles O52. -/
theorem pushMovesTheWindow : Obligations.PushMovesTheWindow := by
  refine ⟨fun s => ⟨_, rfl, rfl, fun wf inside => ⟨historyWrite_wf _ inside wf, historyRead_pushSample wf⟩⟩,
    fun s wf inside nonempty short => ⟨?_, fun j hj => ?_, fun j hj => ?_⟩⟩
  · have newest := ringEntry_pushSample wf s.rs.firN (s.rs.firN - 1)
    rw [Nat.sub_add_cancel nonempty, if_pos (ringPlace_self inside s.rs.firN)] at newest
    exact newest
  · have kept := ringEntry_pushSample wf s.rs.firN j
    rw [if_neg (ringPlace_ne inside short hj)] at kept
    exact kept
  · have kept := ringEntry_pushSample wf (s.rs.firN + 1) j
    rw [ringPlace_succ_succ, if_neg (ringPlace_ne inside short hj), ringEntry_succ_succ] at kept
    exact kept

/-! ## One iteration of RENDER (R350 to R353) -/

theorem clockN_setResult_comm (r : Result) (n : Nat) (s : State) : clockN n (s.setResult r) = (clockN n s).setResult r := by
  obtain rfl | pos := Nat.eq_zero_or_pos n
  · rfl
  · rw [clockN_of_pos pos, clockN_of_pos pos]
    rfl

theorem clockOne_iterate_setResult (r : Result) (n : Nat) (s : State) :
    clockOne^[n] (s.setResult r) = (clockOne^[n] s).setResult r := by
  induction n generalizing s with
  | zero => rfl
  | succ n ih => exact ih (clockOne s)

theorem pushSample_iterate_setResult (r : Result) (n : Nat) (s : State) :
    pushSample^[n] (s.setResult r) = (pushSample^[n] s).setResult r := by
  induction n generalizing s with
  | zero => rfl
  | succ n ih => exact ih (pushSample s)

theorem clockKeepingPrev_setResult (r : Result) (n : Nat) (s : State) :
    clockKeepingPrev n (s.setResult r) = (clockKeepingPrev n s).setResult r := by
  cases n with
  | zero => rfl
  | succ k =>
    simp only [clockKeepingPrev]
    rw [clockOne_iterate_setResult]
    rfl

theorem advanceCycles_setResult (r : Result) (strategy : Strategy) (n : Nat) (s : State) :
    advanceCycles strategy n (s.setResult r) = (advanceCycles strategy n s).setResult r := by
  cases strategy with
  | fast => exact clockN_setResult_comm r n s
  | interpolate => exact clockKeepingPrev_setResult r n s
  | resampleInterpolate | resampleFast => exact pushSample_iterate_setResult r n s

/-- What a RENDER leaves, with another result in the state. -/
def Rendered.withResult (r : Result) (x : Rendered) : Rendered := { x with state := x.state.setResult r }

theorem renderTail_setResult (r : Result) (strategy : Strategy) (d : Nat) (s : State) :
    renderTail strategy d (s.setResult r) = (renderTail strategy d s).withResult r := by
  cases h : s.cfg.renderKeepsRemainder with
  | true => rw [renderTail_of_keeps h, renderTail_of_keeps (s := s.setResult r) h, Rendered.withResult]
  | false =>
    rw [renderTail_of_drops h, renderTail_of_drops (s := s.setResult r) h]
    simp only [tailState, advanceCycles_setResult]
    rfl

theorem clockToSample_setResult (r : Result) (strategy : Strategy) (s : State) :
    clockToSample strategy (s.setResult r) = (clockToSample strategy s).setResult r := by
  simp only [clockToSample, advanceCycles_setResult]
  rfl

theorem produceSample_setResult (r : Result) (strategy : Strategy) (s : State) :
    produceSample strategy (s.setResult r) = ((produceSample strategy s).1, (produceSample strategy s).2.setResult r) := by
  cases strategy with
  | fast | interpolate => rfl
  | resampleInterpolate | resampleFast => simp only [produceSample, State.setResult_cfg, State.setResult_rs]

theorem renderedSample_setResult (r : Result) (s : State) : renderedSample (s.setResult r) = renderedSample s := by
  simp only [renderedSample, State.setResult_rs, clockToSample_setResult, produceSample_setResult]

theorem renderSample_setResult (r : Result) (s : State) : renderSample (s.setResult r) = (renderSample s).setResult r := by
  simp only [renderSample, State.setResult_rs, clockToSample_setResult, produceSample_setResult]

/-- The result of the operation before has no influence on the loop. -/
theorem renderLoop_setResult (r : Result) (room d : Nat) (s : State) :
    renderLoop s.rs.strategy room d (s.setResult r) = (renderLoop s.rs.strategy room d s).withResult r := by
  induction room generalizing d s with
  | zero =>
    obtain late | due := lt_or_ge (d : Int) (cyclesDue s)
    · rw [renderLoop_of_lt late]
      exact (renderLoop_of_lt (s := s.setResult r) late 0).trans (renderTail_setResult r _ d s)
    · rw [renderLoop_zero due]
      exact renderLoop_zero (s := s.setResult r) due
  | succ room ih =>
    obtain late | due := lt_or_ge (d : Int) (cyclesDue s)
    · rw [renderLoop_of_lt late]
      exact (renderLoop_of_lt (s := s.setResult r) late _).trans (renderTail_setResult r _ d s)
    · rw [renderLoop_succ due]
      refine (renderLoop_succ (s := s.setResult r) due room).trans ?_
      rw [renderSample_setResult, renderedSample_setResult]
      exact congrArg (Rendered.cons (renderedSample s)) (ih _ (renderSample s))

end Sys2Proof.Machine
end

section
/-! PROOFS. One iteration of RENDER under each strategy (47_resampler.md R350 to R353, R355). -/

namespace Sys2Proof.Machine

open Sys2Proof.Claims

theorem cyclesDue_eq_div (s : State) : cyclesDue s = (nextPhase s.rs.strategy s.rs).toInt / 65536 :=
  toInt_asr (nextPhase s.rs.strategy s.rs) 16

/-! ## RENDER by the branches of the loop -/

theorem exec_render_of_keeps {d : Nat} {s : State} (late : (d : Int) < cyclesDue s)
    (keeps : s.cfg.renderKeepsRemainder = true) (m : Nat) :
    exec (.render d m) s = .next { s with result := .samples [] d } := by
  rw [exec_render, renderLoop_of_lt late, renderTail_of_keeps keeps]
  rfl

theorem exec_render_of_drops {d : Nat} {s : State} (late : (d : Int) < cyclesDue s)
    (drops : s.cfg.renderKeepsRemainder = false) (m : Nat) :
    exec (.render d m) s = .next { tailState s.rs.strategy d s with result := .samples [] 0 } := by
  rw [exec_render, renderLoop_of_lt late, renderTail_of_drops drops]
  rfl

theorem exec_render_full {d : Nat} {s : State} (due : cyclesDue s ≤ d) :
    exec (.render d 0) s = .next { s with result := .samples [] d } := by
  rw [exec_render, renderLoop_zero due]
  rfl

/-- A sample that is due: RENDER goes on after it, from the state of the iteration with any result in it. -/
theorem exec_render_sample {d : Nat} {s : State} (nonneg : 0 ≤ cyclesDue s) (due : cyclesDue s ≤ d) (m : Nat) (r : Result) :
    ∃ t ys rem, exec (.render (d - (cyclesDue s).toNat) m) ((renderSample s).setResult r) = .next t ∧
      t.result = .samples ys rem ∧
      exec (.render d (m + 1)) s = .next { t with result := .samples (renderedSample s :: ys) rem } := by
  have cycles : ((d : Int) - cyclesDue s).toNat = d - (cyclesDue s).toNat := by omega
  refine ⟨_, _, _, rfl, rfl, ?_⟩
  rw [State.setResult_rs, renderLoop_setResult, exec_render, renderLoop_succ due, cycles]
  rfl

theorem wrap32_cycles (d : Nat) : wrap32 ((d : Int) * 65536) = BitVec.ofNat 32 (d * 65536) := by
  rw [← wrap32_natCast]
  norm_cast

/-- The phase set. -/
def State.setPhase (phase : S32) (s : State) : State := { s with rs := { s.rs with sampleOffset := phase } }

theorem setResult_setPhase (phase : S32) (r : Result) (s : State) :
    (s.setPhase phase).setResult r =
      { s.setResult r with rs := { (s.setResult r).rs with sampleOffset := phase } } := rfl

theorem tailState_eq (strategy : Strategy) (d : Nat) (s : State) :
    tailState strategy d s = (advanceCycles strategy d s).setPhase (s.rs.sampleOffset - wrap32 (d * 65536)) := by
  rw [← advanceCycles_sampleOffset strategy d s, wrap32_cycles]
  rfl

theorem clockToSample_eq (strategy : Strategy) (s : State) :
    clockToSample strategy s = (advanceCycles strategy (cyclesToSample strategy s.rs).toNat s).setPhase
      (wrap32 ((nextPhase strategy s.rs).toInt % 65536) - phaseBias strategy) := by
  rw [← lowBits_eq_wrap32]
  rfl

/-! ## `fast` (R350) -/

theorem clockToSample_fast (s : State) :
    clockToSample .fast s = (clockN (cyclesToSample .fast s.rs).toNat s).setPhase
      (wrap32 ((nextPhase .fast s.rs).toInt % 65536 - 0x8000)) := by
  rw [wrap32_sub]
  exact clockToSample_eq .fast s

theorem produceSample_fast (s : State) : produceSample .fast s = (rawOutput s, s) := rfl

theorem rawOutput_setPhase (phase : S32) (s : State) : rawOutput (s.setPhase phase) = rawOutput s := rfl

theorem exec_out_setResult (r : Result) (s : State) :
    exec .out (s.setResult r) = .next { s.setResult r with result := .sample (rawOutput s) } := rfl

/-- Settles O48. -/
theorem renderFastIteration : Obligations.RenderFastIteration := by
  intro d m s h nso dts
  have due_eq : cyclesDue s = dts := by rw [cyclesDue_eq_div, h]; rfl
  refine ⟨fun late keeps => exec_render_of_keeps (due_eq ▸ late) keeps m, fun late drops => ⟨_, rfl, ?_⟩,
    fun due => exec_render_full (due_eq ▸ due), fun nonneg due => ?_⟩
  · rw [exec_render_of_drops (due_eq ▸ late) drops, h, tailState_eq]
    rfl
  · have clocked : clockToSample s.rs.strategy s = (clockN dts.toNat s).setPhase (wrap32 (nso % 65536 - 0x8000)) := by
      rw [← due_eq, cyclesDue, h]
      exact clockToSample_fast s
    have sample : renderedSample s = rawOutput (clockN dts.toNat s) := by
      rw [renderedSample, clocked, h, produceSample_fast, rawOutput_setPhase]
    have next : renderSample s = (clockN dts.toNat s).setPhase (wrap32 (nso % 65536 - 0x8000)) := by
      rw [renderSample, clocked, h, produceSample_fast]
    obtain ⟨t, ys, rem, rest, result, whole⟩ := exec_render_sample (due_eq ▸ nonneg) (due_eq ▸ due) m .none
    rw [next, due_eq, setResult_setPhase] at rest
    exact ⟨_, t, renderedSample s, ys, rem, rfl, sample ▸ exec_out_setResult .none _, rest, result, whole⟩

/-! ## The strategies that round the phase down -/

theorem phaseBias_of_ne_fast {strategy : Strategy} (h : strategy ≠ .fast) : phaseBias strategy = 0#32 := by
  cases strategy with
  | fast => exact absurd rfl h
  | interpolate | resampleInterpolate | resampleFast => rfl

theorem nextPhase_of_ne_fast {strategy : Strategy} (h : strategy ≠ .fast) (rs : Resampler) :
    nextPhase strategy rs = rs.sampleOffset + rs.cyclesPerSample := by
  rw [nextPhase, phaseBias_of_ne_fast h, BitVec.add_zero]

theorem clockToSample_of_ne_fast {strategy : Strategy} (h : strategy ≠ .fast) (s : State) :
    clockToSample strategy s = (advanceCycles strategy (cyclesToSample strategy s.rs).toNat s).setPhase
      (wrap32 ((s.rs.sampleOffset + s.rs.cyclesPerSample).toInt % 65536)) := by
  rw [clockToSample_eq, nextPhase_of_ne_fast h, phaseBias_of_ne_fast h, BitVec.sub_zero]

theorem cyclesDue_of_ne_fast {s : State} (h : s.rs.strategy ≠ .fast) :
    cyclesDue s = (s.rs.sampleOffset + s.rs.cyclesPerSample).toInt / 65536 := by
  rw [cyclesDue_eq_div, nextPhase_of_ne_fast h]

/-! ## `interpolate` (R351) -/

/-- `clkTimes` and `clockKeepingPrev` differ only in what a CLK hands back. -/
theorem clkState_iterate_eq (n : Nat) (s : State) : ∃ r, clkState^[n] s = (clockOne^[n] s).setResult r := by
  induction n generalizing s with
  | zero => exact ⟨s.result, rfl⟩
  | succ n ih =>
    obtain ⟨r, h⟩ := ih (clkState s)
    refine ⟨r, h.trans ?_⟩
    rw [clkState, clockOne_iterate_setResult]
    rfl

theorem clkTimesKeepingPrev_eq (n : Nat) (s : State) :
    ∃ r, clkTimesKeepingPrev n s = .next ((clockKeepingPrev n s).setResult r) := by
  cases n with
  | zero => exact ⟨s.result, rfl⟩
  | succ k =>
    obtain ⟨r, h⟩ := clkState_iterate_eq k s
    refine ⟨.none, ?_⟩
    rw [clkTimesKeepingPrev, clkTimes_eq, h]
    rfl

/-- The sample of R351 in integers. -/
theorem interpolateSample_eq (so : Int) (prev now : S16) :
    interpolateSample (wrap32 so) prev now =
      BitVec.ofInt 16 (prev.toInt + (wrap32 (so * (now.toInt - prev.toInt))).toInt / 65536) := by
  rw [← lowHalf_wrap32, show (65536 : Int) = 2 ^ 16 from rfl, wrap32_add, wrap32_toInt_div, wrap32_mul, wrap32_sub,
    ← sext32_eq_wrap32, ← sext32_eq_wrap32]
  rfl

/-- The state after an iteration of `interpolate`: the phase and the raw output kept. -/
def State.setPhaseAndPrev (phase : S32) (s : State) : State :=
  { s with rs := { s.rs with sampleOffset := phase, samplePrev := rawOutput s } }

theorem produceSample_interpolate (phase : S32) (s : State) :
    produceSample .interpolate (s.setPhase phase) =
      (interpolateSample phase s.rs.samplePrev (rawOutput s), s.setPhaseAndPrev phase) := rfl

theorem setResult_setPhaseAndPrev (phase : S32) (r : Result) (s : State) :
    (s.setResult r).setPhaseAndPrev phase = (s.setPhaseAndPrev phase).setResult r := rfl

/-- Settles O49. -/
theorem renderInterpolateIteration : Obligations.RenderInterpolateIteration := by
  intro d m s h nso dts so
  have ne_fast : s.rs.strategy ≠ .fast := by rw [h]; decide
  have due_eq : cyclesDue s = dts := cyclesDue_of_ne_fast ne_fast
  refine ⟨fun late keeps => exec_render_of_keeps (due_eq ▸ late) keeps m, fun late drops => ?_,
    fun due => exec_render_full (due_eq ▸ due), fun nonneg due => ?_⟩
  · obtain ⟨r, clocked⟩ := clkTimesKeepingPrev_eq d s
    refine ⟨_, clocked, ?_⟩
    rw [exec_render_of_drops (due_eq ▸ late) drops, h, tailState_eq]
    rfl
  · obtain ⟨r, kept⟩ := clkTimesKeepingPrev_eq dts.toNat s
    have clocked : clockToSample s.rs.strategy s = (clockKeepingPrev dts.toNat s).setPhase (wrap32 so) := by
      rw [clockToSample_of_ne_fast ne_fast, ← due_eq, cyclesDue, h]
      rfl
    have sample : renderedSample s = interpolateSample (wrap32 so) (clockKeepingPrev dts.toNat s).rs.samplePrev
        (rawOutput (clockKeepingPrev dts.toNat s)) := by
      rw [renderedSample, clocked, h, produceSample_interpolate]
    have next : renderSample s = (clockKeepingPrev dts.toNat s).setPhaseAndPrev (wrap32 so) := by
      rw [renderSample, clocked, h, produceSample_interpolate]
    obtain ⟨t, ys, rem, rest, result, whole⟩ := exec_render_sample (due_eq ▸ nonneg) (due_eq ▸ due) m r
    rw [next, due_eq, ← setResult_setPhaseAndPrev] at rest
    exact ⟨_, t, renderedSample s, ys, rem, kept, rest, result, sample.trans (interpolateSample_eq ..), whole⟩

/-! ## The resample strategies (R352, R353) -/

/-- `firSample` in integers. -/
theorem toInt_firSample (cfg : Cfg) (v : S32) : (firSample cfg v).toInt = clamp16 (v.toInt / 2 ^ cfg.firShift) := by
  rw [firSample, toInt_sat16, toInt_asr]

section
variable {strategy : Strategy} (h : strategy = .resampleInterpolate ∨ strategy = .resampleFast)
include h

theorem advanceCycles_resample (n : Nat) (s : State) : advanceCycles strategy n s = pushSample^[n] s := by
  obtain rfl | rfl := h <;> rfl

theorem produceSample_resample (s : State) :
    produceSample strategy s =
      (firSample s.cfg (if strategy = .resampleFast then firstConvolution s.cfg s.rs else blendedConvolution s.cfg s.rs), s) := by
  obtain rfl | rfl := h
  · rw [if_neg (by decide), produceSample]
  · rw [if_pos rfl, produceSample]

end

/-- Settles O50. -/
theorem renderResampleIteration : Obligations.RenderResampleIteration := by
  intro d m s h nso dts
  have ne_fast : s.rs.strategy ≠ .fast := by obtain h | h := h <;> rw [h] <;> decide
  have due_eq : cyclesDue s = dts := cyclesDue_of_ne_fast ne_fast
  refine ⟨fun late keeps => exec_render_of_keeps (due_eq ▸ late) keeps m, fun late drops => ?_,
    fun due => exec_render_full (due_eq ▸ due), fun nonneg due => ?_⟩
  · rw [exec_render_of_drops (due_eq ▸ late) drops, tailState_eq, advanceCycles_resample h]
    rfl
  · intro t1 t2 v
    have clocked : clockToSample s.rs.strategy s = t2 := by
      rw [clockToSample_of_ne_fast ne_fast, advanceCycles_resample h, ← cyclesDue, due_eq]
      rfl
    have cfg : t2.cfg = s.cfg := clocked ▸ (clockToSample_elapsed s.rs.strategy s).cfg
    have sample : renderedSample s = firSample s.cfg v := by
      rw [renderedSample, clocked, produceSample_resample h, cfg]
    have next : renderSample s = t2 := by rw [renderSample, clocked, produceSample_resample h]
    obtain ⟨t, ys, rem, rest, result, whole⟩ := exec_render_sample (due_eq ▸ nonneg) (due_eq ▸ due) m t2.result
    rw [next, due_eq] at rest
    exact ⟨t, renderedSample s, ys, rem, rest, result, sample ▸ toInt_firSample s.cfg v, whole⟩

end Sys2Proof.Machine
end

section
/-! PROOFS. The waveform output (40_oscillator.md R150 to R155, 41_noise_lfsr.md R175), the voice, the filter output, OUT and EXTIN. -/

namespace Sys2Proof.Machine

open Sys2Proof.Claims

/-! ## The four waveforms as numbers -/

theorem getLsbD_accumulator_top (a : BitVec 24) : a.getLsbD 23 = decide (2 ^ 23 ≤ a.toNat) := by
  have bit : a.getLsbD 23 = decide (a.toNat / 2 ^ 23 % 2 = 1) := Nat.testBit_eq_decide_div_mod_eq
  rw [bit, decide_eq_decide]
  omega

theorem toNat_triangle (oscs : PerVoice Osc) (v : VoiceIdx) :
    (triangle oscs v).toNat =
      (if decide (2 ^ 23 ≤ (ofVoice oscs v).accumulator.toNat) ^^
          ((ofVoice oscs v).ringMod && decide (2 ^ 23 ≤ (ofVoice oscs (syncSource v)).accumulator.toNat))
        then 2 ^ 24 - 1 - (ofVoice oscs v).accumulator.toNat else (ofVoice oscs v).accumulator.toNat) / 2 ^ 11 % 2 ^ 12 := by
  simp only [triangle]
  rw [toNat_field, apply_ite BitVec.toNat, BitVec.toNat_not, getLsbD_accumulator_top, getLsbD_accumulator_top]

theorem toNat_sawtooth (o : Osc) : (sawtooth o).toNat = o.accumulator.toNat / 2 ^ 12 := by
  rw [sawtooth, toNat_field]
  omega

theorem pulseHigh_iff (o : Osc) :
    pulseHigh o = true ↔ o.test = true ∨ o.pulseWidth.toNat ≤ o.accumulator.toNat / 2 ^ 12 := by
  rw [pulseHigh, Bool.or_eq_true, decide_eq_true_iff, BitVec.le_def, ← toNat_sawtooth]
  rfl

theorem toNat_pulse (o : Osc) : (pulse o).toNat = if pulseHigh o then 4095 else 0 := by
  rw [pulse, apply_ite BitVec.toNat]
  rfl

theorem toNat_tableSample (b : Byte) : (tableSample b).toNat = 16 * b.toNat := by
  rw [tableSample, toNat_cat, mul_comm]
  rfl

/-- A combination with the pulse is a gate. -/
theorem toNat_tableSample_and_pulse (b : Byte) (o : Osc) :
    (tableSample b &&& pulse o).toNat = if pulseHigh o then 16 * b.toNat else 0 := by
  rw [pulse, ← toNat_tableSample]
  split_ifs
  · exact congrArg BitVec.toNat (BitVec.and_allOnes (x := tableSample b))
  · exact congrArg BitVec.toNat (BitVec.and_zero (x := tableSample b))

theorem toNat_noiseBit (cfg : Cfg) (r : BitVec 23) (k : Fin 8) :
    (noiseBit cfg r k).toNat = r.toNat / 2 ^ cfg.noiseTap[k].val % 2 := by
  rw [noiseBit, BitVec.toNat_ofBool]
  exact Nat.toNat_testBit _ _

theorem toNat_noise (cfg : Cfg) (r : BitVec 23) :
    (noise cfg r).toNat =
      ((List.finRange 8).map (fun k => 2 ^ (4 + k.val) * (r.toNat / 2 ^ cfg.noiseTap[k].val % 2))).sum := by
  simp only [← toNat_noiseBit, noise, toNat_cat]
  change _ = (List.map _ [0, 1, 2, 3, 4, 5, 6, 7]).sum
  simp only [List.map_cons, List.map_nil, List.sum_cons, List.sum_nil]
  simp only [Fin.isValue, Fin.coe_ofNat_eq_mod, BitVec.toNat_ofNat, Nat.reduceMod, Nat.reduceAdd, Nat.reducePow]
  omega

theorem triangle_shift (oscs : PerVoice Osc) (v : VoiceIdx) :
    triangle oscs v >>> 1 = BitVec.ofNat 12 ((triangle oscs v).toNat / 2) :=
  eq_ofNat_of_toNat (by rw [BitVec.toNat_ushiftRight, Nat.shiftRight_eq_div_pow, pow_one])

theorem sawtooth_eq (o : Osc) : sawtooth o = BitVec.ofNat 12 (o.accumulator.toNat / 2 ^ 12) := eq_ofNat_of_toNat (toNat_sawtooth o)

/-! ## The 16 combinations -/

/-- No waveform, or noise with another one. -/
theorem waveOutput_of_silent {cfg : Cfg} {m : ChipModel} {oscs : PerVoice Osc} {v : VoiceIdx}
    (h : (ofVoice oscs v).waveformSelect = 0 ∨ 9 ≤ (ofVoice oscs v).waveformSelect.toNat) : waveOutput cfg m oscs v = 0 := by
  have number : (ofVoice oscs v).waveformSelect.toNat = 0 ∨ 9 ≤ (ofVoice oscs v).waveformSelect.toNat :=
    h.imp_left fun h => by rw [h]; rfl
  simp only [waveOutput]
  split <;> first | omega | rfl

/-- R150: the one waveform or combination each of the other eight selections names. -/
theorem waveOutput_of_select (cfg : Cfg) (m : ChipModel) (oscs : PerVoice Osc) (v : VoiceIdx) :
    ((ofVoice oscs v).waveformSelect = 1 → waveOutput cfg m oscs v = triangle oscs v) ∧
    ((ofVoice oscs v).waveformSelect = 2 → waveOutput cfg m oscs v = sawtooth (ofVoice oscs v)) ∧
    ((ofVoice oscs v).waveformSelect = 3 →
      waveOutput cfg m oscs v = tableSample (Config.waveST m (sawtooth (ofVoice oscs v)))) ∧
    ((ofVoice oscs v).waveformSelect = 4 → waveOutput cfg m oscs v = pulse (ofVoice oscs v)) ∧
    ((ofVoice oscs v).waveformSelect = 5 →
      waveOutput cfg m oscs v = tableSample (Config.wavePT m (triangle oscs v >>> 1)) &&& pulse (ofVoice oscs v)) ∧
    ((ofVoice oscs v).waveformSelect = 6 →
      waveOutput cfg m oscs v = tableSample (Config.wavePS m (sawtooth (ofVoice oscs v))) &&& pulse (ofVoice oscs v)) ∧
    ((ofVoice oscs v).waveformSelect = 7 →
      waveOutput cfg m oscs v = tableSample (Config.wavePST m (sawtooth (ofVoice oscs v))) &&& pulse (ofVoice oscs v)) ∧
    ((ofVoice oscs v).waveformSelect = 8 → waveOutput cfg m oscs v = noise cfg (ofVoice oscs v).shiftRegister) := by
  refine ⟨?_, ?_, ?_, ?_, ?_, ?_, ?_, ?_⟩
  all_goals
    intro h
    simp only [waveOutput]
    rw [h]
    rfl

/-- Settles O21. -/
theorem waveformOutputSelection : Obligations.WaveformOutputSelection := by
  intro cfg m oscs v o a partnerHigh inverted tri saw high pul noiseOut gated y
  obtain ⟨out1, out2, out3, out4, out5, out6, out7, out8⟩ := waveOutput_of_select cfg m oscs v
  have triangle_eq : (triangle oscs v).toNat = tri := toNat_triangle oscs v
  have number {w : BitVec 12} (out : waveOutput cfg m oscs v = w) : y = w.toNat := congrArg BitVec.toNat out
  have gate (b : Byte) : (tableSample b &&& pulse o).toNat = gated b :=
    (toNat_tableSample_and_pulse b o).trans (if_congr (pulseHigh_iff o) rfl rfl)
  refine ⟨fun h => ?_, fun h => ?_, fun h => ?_, fun h => ?_, fun h => ?_, fun h => ?_, fun h => ?_, fun h => ?_, fun h => ?_⟩
  · rw [number (out1 h), triangle_eq]
  · rw [number (out2 h), toNat_sawtooth]
  · rw [number (out3 h), toNat_tableSample, sawtooth_eq]
  · exact (number (out4 h)).trans ((toNat_pulse o).trans (if_congr (pulseHigh_iff o) rfl rfl))
  · rw [number (out5 h), gate, triangle_shift, triangle_eq]
  · rw [number (out6 h), gate, sawtooth_eq]
  · rw [number (out7 h), gate, sawtooth_eq]
  · rw [number (out8 h), toNat_noise]
  · exact number (waveOutput_of_silent h)

/-! ## The voice (R230) -/

/-- R230 in integers. -/
theorem shapeVoice_eq (cfg : Cfg) (m : ChipModel) (w : BitVec 12) (e : Byte) :
    shapeVoice cfg m w e =
      wrap32 (((w.toNat : Int) - (perModel cfg.waveZero m).toInt) * e.toNat + (perModel cfg.voiceDC m).toInt) := by
  simp only [wrap32_add, wrap32_mul, wrap32_sub, wrap32_toInt, wrap32_natCast, BitVec.ofNat_toNat]
  rfl

/-- With offsets this small the voice output is exact. -/
theorem toInt_shapeVoice {cfg : Cfg} {m : ChipModel} (w : BitVec 12) (e : Byte) {zero dc : Int}
    (hzero : (perModel cfg.waveZero m).toInt = zero) (hdc : (perModel cfg.voiceDC m).toInt = dc)
    (zero_small : 0 ≤ zero ∧ zero ≤ 4096) (dc_small : 0 ≤ dc ∧ dc ≤ 2 ^ 20) :
    (shapeVoice cfg m w e).toInt = ((w.toNat : Int) - zero) * e.toNat + dc := by
  have hw := w.isLt
  have he := e.isLt
  have low : -4096 * 256 ≤ ((w.toNat : Int) - zero) * e.toNat := by nlinarith
  have high : ((w.toNat : Int) - zero) * e.toNat ≤ 4096 * 256 := by nlinarith
  rw [shapeVoice_eq, hzero, hdc, toInt_wrap32_of_range (by omega) (by omega)]

/-- Settles O33. -/
theorem voiceOutputDoesNotWrap : Obligations.VoiceOutputDoesNotWrap := by
  intro s v w e
  refine ⟨fun muted => by rw [voiceOutput, if_pos muted], fun sounding hzero hdc => ?_⟩
  rw [voiceOutput, sounding, if_neg Bool.false_ne_true]
  refine ⟨fun model => ?_, fun model => ?_⟩
  · exact toInt_shapeVoice _ _ (by rw [model, hzero]; rfl) (by rw [model, hdc]; rfl) (by decide) (by decide)
  · exact (toInt_shapeVoice (zero := 2048) (dc := 0) _ _ (by rw [model, hzero]; rfl) (by rw [model, hdc]; rfl) (by decide)
      (by decide)).trans (add_zero _)

/-! ## The filter output (R258) -/

theorem select32_getLsbD (x : S32) {w : Nat} (select : BitVec w) (i : Nat) :
    select32 (select.getLsbD i) x = wrap32 (if select.toNat / 2 ^ i % 2 = 1 then x.toInt else 0) := by
  have bit : select.getLsbD i = decide (select.toNat / 2 ^ i % 2 = 1) := Nat.testBit_eq_decide_div_mod_eq
  rw [select32, bit, apply_ite wrap32, wrap32_toInt, if_congr decide_eq_true_iff rfl rfl]
  rfl

/-- Settles O35. -/
theorem filterOutputMixesTheSelection : Obligations.FilterOutputMixesTheSelection := by
  intro cfg m f pick
  have mixed : f.selectedSum = wrap32 (pick 0 f.lowpassState + pick 1 f.bandpassState + pick 2 f.highpassState) := by
    rw [Filt.selectedSum, select32_getLsbD, select32_getLsbD, select32_getLsbD, wrap32_add, wrap32_add]
  refine ⟨?_, fun none hp bp lp => ?_, fun silent => ?_⟩
  · rw [Filt.output, mixed]
    simp only [wrap32_mul, wrap32_add, wrap32_toInt, wrap32_natCast, BitVec.ofNat_toNat, add_assoc]
  · simp only [Filt.output, Filt.selectedSum, none]
    rfl
  · rw [Filt.output, silent]
    exact BitVec.mul_zero

/-! ## OUT and EXTIN (R310, R312) -/

/-- `tdiv` of R15: the sign, times the quotient of the magnitudes. -/
theorem tdiv_eq_sign_mul (a : Int) (n : Nat) : tdiv a n = a.sign * (a.natAbs / n : Nat) := by
  obtain rfl | nonzero := eq_or_ne a 0
  · simp [tdiv]
  obtain ⟨k, rfl | rfl⟩ := a.eq_nat_or_neg
  · rw [tdiv, ← Int.ofNat_tdiv, Int.sign_natCast_of_ne_zero (Int.natCast_ne_zero.mp nonzero), Int.natAbs_natCast, one_mul]
  · rw [tdiv, Int.neg_tdiv, ← Int.ofNat_tdiv, Int.sign_neg,
      Int.sign_natCast_of_ne_zero (Int.natCast_ne_zero.mp (neg_ne_zero.mp nonzero)), Int.natAbs_neg, Int.natAbs_natCast, neg_one_mul]

/-- Settles O36. -/
theorem outDividesAndSaturates : Obligations.OutDividesAndSaturates := fun s =>
  ⟨_, rfl, by rw [rawOutput, toInt_sat16, tdiv_eq_sign_mul]⟩

/-- The default of `EXTIN_SCALE` is exact. -/
theorem toInt_sext32_mul (x : S16) : (sext32 x * 16 * 3).toInt = x.toInt * 16 * 3 := by
  have low := BitVec.le_toInt (x := x)
  have high := BitVec.toInt_lt (x := x)
  have wrapped : sext32 x * 16 * 3 = wrap32 (x.toInt * 16 * 3) := by
    rw [wrap32_mul, wrap32_mul, ← sext32_eq_wrap32]
    rfl
  rw [wrapped, toInt_wrap32_of_range (by omega) (by omega)]

theorem scaleExternal_of_unlisted {cfg : Cfg} {x : S16} (unlisted : ∀ z, (x, z) ∉ cfg.extinScale) :
    scaleExternal cfg x = sext32 x * 16 * 3 := by
  have none : cfg.extinScale.find? (fun p => p.1 == x) = none :=
    List.find?_eq_none.mpr fun p hp same => unlisted p.2 (eq_of_beq same ▸ hp)
  rw [scaleExternal, none]

theorem extinScale_keys_nodup {cfg : Cfg} (wf : cfg.wf = true) : (cfg.extinScale.map Prod.fst).Nodup := by
  simp only [Cfg.wf, extinScaleWf, Bool.and_eq_true, decide_eq_true_eq] at wf
  obtain ⟨⟨⟨⟨⟨⟨⟨-, rising, -⟩, -⟩, -⟩, -⟩, -⟩, -⟩, -⟩ := wf
  exact List.pairwise_map.mpr <| rising.imp fun lt same => absurd lt (by rw [same]; exact Nat.lt_irrefl _)

/-- The canonical list has one value for a sample. -/
theorem scaleExternal_of_listed {cfg : Cfg} (wf : cfg.wf = true) {x : S16} {z : S32} (listed : (x, z) ∈ cfg.extinScale) :
    scaleExternal cfg x = z := by
  have isSome : (cfg.extinScale.find? (fun p => p.1 == x)).isSome := List.find?_isSome.mpr ⟨_, listed, beq_self_eq_true x⟩
  obtain ⟨p, found⟩ := Option.isSome_iff_exists.mp isSome
  have key : p.1 = x := eq_of_beq (List.find?_some found :)
  have same : p = (x, z) :=
    List.inj_on_of_nodup_map (extinScale_keys_nodup wf) (List.mem_of_find?_eq_some found) listed key
  rw [scaleExternal, found, same]

/-- Settles O37. -/
theorem extinScalesTheSample : Obligations.ExtinScalesTheSample := fun x s =>
  ⟨_, rfl, fun unlisted => by rw [scaleExternal_of_unlisted unlisted, toInt_sext32_mul],
    fun _ wf listed => scaleExternal_of_listed wf listed⟩

end Sys2Proof.Machine
end

section
/-! PROOFS. The idle chip (70_reset_and_hazards.md R412): what CLK does to the state RST leaves. -/

namespace Sys2Proof.Machine

open Sys2Proof.Claims

/-! ## The state n cycles after RST -/

/-- The envelope after RST, n cycles on. -/
def idleEnv (cfg : Cfg) (n : Nat) : Env :=
  { Env.afterRst cfg with rateCounter := BitVec.ofNat 15 (n % cfg.ratePeriod[0].toNat) }

/-- The DC level of a voice in the mix. -/
def idleLevel (s : State) (v : VoiceIdx) : S32 :=
  asr (if ofVoice s.muted v then 0 else perModel s.cfg.voiceDC s.chip.chipModel) 7

/-- The sum of the four inputs of an idle chip. -/
def idleSum (s : State) : S32 := idleLevel s .v0 + idleLevel s .v1 + idleLevel s .v2 + asr s.chip.externalInput 7

/-- The filter after RST, n cycles on. -/
def idleFilt (s : State) (n : Nat) : Filt := { Filt.afterRst with unfilteredSum := if n = 0 then 0 else idleSum s }

/-- The output stage after RST, n cycles on: at rest where it is enabled, else its DC bias. -/
def idleExtf (s : State) (n : Nat) : Extf :=
  { s.extf.afterRst with
    out := if s.extf.enabled = true ∨ n = 0 then 0 else 0 - perModel s.cfg.extfDC s.chip.chipModel }

/-- The state n cycles after RST. -/
def idleState (s : State) (n : Nat) : State :=
  { resetChip s with
    env := everyVoice (idleEnv s.cfg n), filt := idleFilt s n, extf := idleExtf s n, result := .none }

/-- RST leaves the idle state of no cycles. -/
theorem idleState_zero (s : State) : idleState s 0 = (resetChip s).setResult .none := by
  have extf : idleExtf s 0 = s.extf.afterRst := by rw [idleExtf, if_pos (Or.inr rfl)]; rfl
  rw [idleState, extf]
  rfl

/-! ## One cycle more -/

theorem ratePeriod_pos {cfg : Cfg} (wf : cfg.wf = true) : 0 < cfg.ratePeriod[0].toNat := by
  have mem : ratePeriodAt cfg 0 ∈ cfg.ratePeriod.toList := ratePeriodAt_mem cfg 0
  simp only [Cfg.wf, Bool.and_eq_true, List.all_eq_true, bne_iff_ne] at wf
  obtain ⟨⟨⟨⟨⟨⟨⟨⟨⟨periods, -⟩, -⟩, -⟩, -⟩, -⟩, -⟩, -⟩, -⟩, -⟩ := wf
  exact Nat.pos_of_ne_zero fun zero => periods _ mem (BitVec.eq_of_toNat_eq zero)

/-- The envelope is held at zero: only its rate counter moves, modulo the period. -/
theorem Env.one_idleEnv {cfg : Cfg} (wf : cfg.wf = true) (n : Nat) : (idleEnv cfg n).one cfg = idleEnv cfg (n + 1) := by
  have pos := ratePeriod_pos wf
  have small := cfg.ratePeriod[0].isLt
  have bound := Nat.mod_lt n pos
  obtain ⟨on_match, on_miss⟩ := succ_div_mod n pos
  have counter : (idleEnv cfg n).rateCounter.toNat = n % cfg.ratePeriod[0].toNat := by
    rw [idleEnv, BitVec.toNat_ofNat, Nat.mod_eq_of_lt (by omega)]
  have next := (idleEnv cfg n).toNat_nextRate cfg
  rw [counter, if_neg (by omega)] at next
  have matches_iff : (idleEnv cfg n).Matches cfg ↔ n % cfg.ratePeriod[0].toNat + 1 = cfg.ratePeriod[0].toNat := by
    rw [Env.Matches, ← BitVec.toNat_inj, next]
    rfl
  by_cases last : n % cfg.ratePeriod[0].toNat + 1 = cfg.ratePeriod[0].toNat
  · rw [Env.one_of_holdZero (matches_iff.mpr last) (Or.inr rfl) rfl, idleEnv, idleEnv, (on_match last).2]
    rfl
  · rw [Env.one_of_not_matches (fun m => last (matches_iff.mp m)), eq_ofNat_of_toNat next, idleEnv, idleEnv, (on_miss last).2]

theorem Osc.one_afterRst (cfg : Cfg) : (Osc.afterRst cfg).one = Osc.afterRst cfg := by
  have still : (Osc.afterRst cfg).nextAccumulator = 0 := rfl
  have flat (i : Nat) : rising (Osc.afterRst cfg).accumulator 0 i = false := by simp [Osc.afterRst, rising]
  have running : (Osc.afterRst cfg).test = false := rfl
  rw [Osc.one, running, if_neg Bool.false_ne_true, still, flat, flat]
  rfl

theorem clockOscillators_afterRst (cfg : Cfg) :
    clockOscillators (everyVoice (Osc.afterRst cfg)) = everyVoice (Osc.afterRst cfg) := by
  have advanced : mapVoices Osc.one (everyVoice (Osc.afterRst cfg)) = everyVoice (Osc.afterRst cfg) :=
    congrArg everyVoice (Osc.one_afterRst cfg)
  have unsynced (v : VoiceIdx) : synchronize v (everyVoice (Osc.afterRst cfg)) = everyVoice (Osc.afterRst cfg) :=
    if_neg (by cases v <;> exact Bool.false_ne_true)
  rw [clockOscillators, advanced, synchronizeAll, unsynced, unsynced, unsynced]

theorem voicesClocked_eq (s : State) :
    voicesClocked s = { s with chip := s.chip.age, env := clockEnvelopes s.cfg s.env, osc := clockOscillators s.osc } := rfl

/-- Steps 1 to 4 of a cycle move only the rate counters. -/
theorem voicesClocked_idleState {s : State} (wf : s.cfg.wf = true) (n : Nat) :
    voicesClocked (idleState s n) = { idleState s n with env := everyVoice (idleEnv s.cfg (n + 1)) } := by
  have osc : clockOscillators (idleState s n).osc = (idleState s n).osc := clockOscillators_afterRst s.cfg
  have env : clockEnvelopes (idleState s n).cfg (idleState s n).env = everyVoice (idleEnv s.cfg (n + 1)) :=
    congrArg everyVoice (Env.one_idleEnv wf n)
  have chip : (idleState s n).chip.age = (idleState s n).chip := rfl
  rw [voicesClocked_eq, osc, env, chip]

/-- A voice without a waveform and with its envelope at zero gives its DC level. -/
theorem voiceOutput_of_rest {s : State} {v : VoiceIdx} (wave : (ofVoice s.osc v).waveformSelect = 0)
    (level : (ofVoice s.env v).envelopeCounter = 0) :
    voiceOutput s v = if ofVoice s.muted v then 0 else perModel s.cfg.voiceDC s.chip.chipModel := by
  have quiet : shapeVoice s.cfg s.chip.chipModel 0 0 = perModel s.cfg.voiceDC s.chip.chipModel := by
    rw [shapeVoice_eq]
    simp
  rw [voiceOutput, waveOutput_of_silent (Or.inl wave), level, quiet]

theorem unroutedSum_of_rest {s : State} (wave : ∀ v, (ofVoice s.osc v).waveformSelect = 0)
    (level : ∀ v, (ofVoice s.env v).envelopeCounter = 0) (disconnect : s.filt.voice3Disconnect = false)
    (routing : s.filt.routing = 0) : unroutedSum s.filt.routing (mixInputs s) = idleSum s := by
  have kept : voice3Removed s.filt = false := by rw [voice3Removed, disconnect]; rfl
  rw [routing, mixInputs, voiceOutput_of_rest (wave .v0) (level .v0), voiceOutput_of_rest (wave .v1) (level .v1),
    voiceOutput_of_rest (wave .v2) (level .v2), kept]
  rfl

/-- Nothing is routed, so a filter at rest stays at rest. -/
theorem Filt.integrate_of_rest (order : FilterOrder) (w : S32) (shift : Nat) (q : S32) {f : Filt} (hp : f.highpassState = 0)
    (bp : f.bandpassState = 0) (lp : f.lowpassState = 0) :
    f.integrate order w shift q 0 = { f with highpassState := 0, bandpassState := 0, lowpassState := 0 } := by
  have highpass : highpassOf q 0 0 0 = 0 := by simp [highpassOf, asr]
  have step : (0 : S32) - asr (w * 0) shift = 0 := by simp [asr]
  cases order with
  | doc => simp only [Filt.integrate, bp, lp, highpass, step]
  | reference => simp only [Filt.integrate, hp, bp, lp, highpass, step]

theorem routedSum_none (x : MixInputs) : routedSum 0 x = 0 := rfl

/-- The filter step of an idle chip stores the sum of the inputs and moves nothing else. -/
theorem filterOne_idle (s : State) (n : Nat) (envs : PerVoice Env) (level : ∀ v, (ofVoice envs v).envelopeCounter = 0) :
    filterOne { idleState s n with env := envs } = { idleState s n with env := envs, filt := idleFilt s (n + 1) } := by
  have wave (v : VoiceIdx) : (ofVoice (everyVoice (Osc.afterRst s.cfg)) v).waveformSelect = 0 := by rw [ofVoice_everyVoice]; rfl
  have sum := unroutedSum_of_rest (s := { idleState s n with env := envs }) wave level rfl rfl
  have filt : storeUnfiltered { idleState s n with env := envs } = idleFilt s (n + 1) := by
    rw [storeUnfiltered, sum, idleFilt, if_neg n.succ_ne_zero]
    rfl
  have routed : routedSum { idleState s n with env := envs }.filt.routing (mixInputs { idleState s n with env := envs }) = 0 :=
    routedSum_none _
  rw [filterOne, filt, routed, Filt.integrate_of_rest _ _ _ _ rfl rfl rfl]
  rfl

theorem filterOutput_of_silent {s : State} (h : s.filt.volume = 0) : filterOutput s = 0 := by
  rw [filterOutput, Filt.output, h]
  exact BitVec.mul_zero

/-- An enabled output stage at rest stays at rest. -/
theorem Extf.one_of_rest (cfg : Cfg) {x : Extf} (lp : x.lowpassState = 0) (hp : x.highpassState = 0) :
    x.one cfg 0 = { x with lowpassState := 0, highpassState := 0, out := 0 } := by
  have target : x.hpTarget cfg.extfHpTracks 0 = 0 := by
    unfold Extf.hpTarget
    split
    · exact lp
    · rfl
  have steps (w : S32) (k : Nat) : 0 + asr (w * (0 - 0)) k = 0 := by simp [asr]
  simp only [Extf.one, target, lp, hp, steps]
  rfl

/-- The output stage's share of an idle cycle. -/
theorem idleExtf_succ (s : State) (n : Nat) :
    (if (idleExtf s n).enabled then (idleExtf s n).one s.cfg 0 else (idleExtf s n).passThrough s.cfg s.chip.chipModel 0) =
      idleExtf s (n + 1) := by
  have enabled_eq : (idleExtf s n).enabled = s.extf.enabled := rfl
  rw [enabled_eq]
  split_ifs with enabled
  · rw [Extf.one_of_rest s.cfg rfl rfl, idleExtf, idleExtf, if_pos (Or.inl enabled), if_pos (Or.inl enabled)]
    rfl
  · rw [idleExtf, idleExtf, if_neg (not_or.mpr ⟨enabled, n.succ_ne_zero⟩)]
    rfl

theorem outputOne_idle (s : State) (n : Nat) (envs : PerVoice Env) :
    outputOne { idleState s n with env := envs, filt := idleFilt s (n + 1) } =
      { idleState s (n + 1) with env := envs } := by
  have silent : filterOutput { idleState s n with env := envs, filt := idleFilt s (n + 1) } = 0 := filterOutput_of_silent rfl
  rw [outputOne, silent]
  exact congrArg (State.setExtf _) (idleExtf_succ s n)

theorem clkState_idleState {s : State} (wf : s.cfg.wf = true) (n : Nat) :
    clkState (idleState s n) = idleState s (n + 1) := by
  have level (v : VoiceIdx) : (ofVoice (everyVoice (idleEnv s.cfg (n + 1))) v).envelopeCounter = 0 := by
    rw [ofVoice_everyVoice]; rfl
  have cycle : clkState (idleState s n) = (outputOne (filterOne (voicesClocked (idleState s n)))).setResult .none := rfl
  rw [cycle, voicesClocked_idleState wf, filterOne_idle s n _ level, outputOne_idle]
  rfl

theorem clkTimes_afterRst {s : State} (wf : s.cfg.wf = true) (n : Nat) : clkTimes n (idleState s 0) = .next (idleState s n) := by
  rw [clkTimes_eq]
  induction n with
  | zero => rfl
  | succ n ih =>
    rw [Function.iterate_succ_apply', Host.Outcome.next.inj ih, clkState_idleState wf]

/-! ## The levels in integers -/

theorem idleLevel_eq (s : State) (v : VoiceIdx) :
    idleLevel s v = wrap32 (if ofVoice s.muted v then 0 else (perModel s.cfg.voiceDC s.chip.chipModel).toInt / 128) := by
  rw [idleLevel]
  split_ifs
  · exact BitVec.zero_sshiftRight
  · exact (wrap32_toInt_div _ 7).symm

/-- Settles O32. -/
theorem idleChipOnlyCountsRates : Obligations.IdleChipOnlyCountsRates := by
  intro s s0 n wf rst level
  obtain rfl : s0 = idleState s 0 := (done_eq_next.mp rst).trans (idleState_zero s).symm
  have external : asr s.chip.externalInput 7 = wrap32 (s.chip.externalInput.toInt / 128) := (wrap32_toInt_div _ 7).symm
  have sum : idleSum s = wrap32 (level .v0 + level .v1 + level .v2 + s.chip.externalInput.toInt / 128) := by
    rw [idleSum, idleLevel_eq, idleLevel_eq, idleLevel_eq, external, wrap32_add, wrap32_add, wrap32_add]
  refine ⟨idleState s n, clkTimes_afterRst wf n, rfl, fun v => ?_, ?_, fun enabled => ?_, fun disabled => ?_⟩
  · rw [idleState, idleState, ofVoice_everyVoice, ofVoice_everyVoice]
    rfl
  · rw [← sum]
    rfl
  · have resting (k : Nat) : (idleState s k).extf = s.extf.afterRst := by
      rw [idleState, idleExtf, if_pos (Or.inl enabled)]; rfl
    have silent : rawOutput (idleState s n) = 0 := by
      rw [rawOutput, resting]
      simp [Extf.afterRst, tdiv, sat16]
    refine ⟨(resting n).trans (resting 0).symm, ?_⟩
    rw [← silent]
    rfl
  · have bias : wrap32 (-(perModel s.cfg.extfDC s.chip.chipModel).toInt) = 0 - perModel s.cfg.extfDC s.chip.chipModel := by
      rw [wrap32_neg, wrap32_toInt]
      exact (BitVec.zero_sub _).symm
    rw [bias, idleState, idleState, idleExtf, idleExtf, disabled]
    simp

end Sys2Proof.Machine
end

section
/-! PROOFS. CALIB and SAMPLING (44_filter.md R264, 47_resampler.md R340 to R343) and the shape of the FIR tables (R347). -/

namespace Sys2Proof.Machine

open Sys2Proof.Claims

/-! ## CALIB (R264) -/

theorem asNat_eq_some_iff {r : HostReal} {n : Nat} : asNat r = some n ↔ r = .finite n := by
  cases r with
  | nonFinite => simp [asNat]
  | finite q =>
    rw [asNat, HostReal.finite.injEq]
    constructor
    · intro h
      split_ifs at h with natural
      obtain ⟨den, num⟩ := natural
      have cast : ((q.num.toNat : Int) : Rat) = q := by rw [Int.toNat_of_nonneg num]; exact Rat.coe_int_num_of_den_eq_one den
      rw [← Option.some.inj h, ← cast]
      norm_cast
    · rintro rfl
      simp

/-- A point as CALIB is given it. -/
def Knot.asPoint (k : Knot) : CalibPoint := { controlValue := .finite k.x, frequencyHz := .finite k.y }

theorem asKnot_eq_some_iff {q : CalibPoint} {k : Knot} : asKnot q = some k ↔ q = k.asPoint ∧ k.x ≤ 2047 := by
  constructor
  · intro h
    refine ⟨?_, asKnot_le h⟩
    unfold asKnot at h
    split at h
    next x y hx hy =>
      split_ifs at h
      cases h
      rw [Knot.asPoint, ← asNat_eq_some_iff.mp hx, ← asNat_eq_some_iff.mp hy]
    next => cases h
  · rintro ⟨rfl, bound⟩
    rw [asKnot, Knot.asPoint, asNat_eq_some_iff.mpr rfl, asNat_eq_some_iff.mpr rfl]
    exact if_pos bound

theorem asPiece_cons_eq_some_iff {q : CalibPoint} {rest : List CalibPoint} {p : List Knot} :
    asPiece (q :: rest) = some p ↔ ∃ k ks, asKnot q = some k ∧ asPiece rest = some ks ∧ p = k :: ks := by
  rw [asPiece]
  cases asKnot q <;> cases asPiece rest <;> simp [eq_comm]

/-- The list of points is that of a piece with control values up to 2047. -/
theorem asPiece_eq_some_iff {points : List CalibPoint} {p : List Knot} :
    asPiece points = some p ↔ points = p.map Knot.asPoint ∧ ∀ k ∈ p, k.x ≤ 2047 := by
  induction points generalizing p with
  | nil =>
    rw [asPiece, Option.some.injEq]
    cases p with
    | nil => simp
    | cons k ks => simp
  | cons q rest ih =>
    simp only [asPiece_cons_eq_some_iff, asKnot_eq_some_iff, ih]
    constructor
    · rintro ⟨k, ks, ⟨rfl, bound⟩, ⟨rfl, bounds⟩, rfl⟩
      exact ⟨rfl, List.forall_mem_cons.mpr ⟨bound, bounds⟩⟩
    · cases p with
      | nil => exact fun h => absurd h.1 (List.cons_ne_nil q rest)
      | cons k ks =>
        rintro ⟨same, bounds⟩
        obtain ⟨rfl, rfl⟩ := List.cons.inj same
        obtain ⟨bound, bounds⟩ := List.forall_mem_cons.mp bounds
        exact ⟨k, ks, ⟨rfl, bound⟩, ⟨rfl, bounds⟩, rfl⟩

/-- Increasing on both axes. -/
def Knot.Below (a b : Knot) : Prop := a.x < b.x ∧ a.y < b.y

theorem strictlyIncreasing_iff {p : List Knot} : strictlyIncreasing p = true ↔ p.Pairwise Knot.Below := by
  have trans : IsTrans Knot Knot.Below := ⟨fun _ _ _ hab hbc => ⟨hab.1.trans hbc.1, hab.2.trans hbc.2⟩⟩
  rw [← List.isChain_iff_pairwise]
  induction p with
  | nil => simp [strictlyIncreasing]
  | cons a rest ih =>
    cases rest with
    | nil => simp [strictlyIncreasing]
    | cons b rest =>
      simp only [strictlyIncreasing, Bool.and_eq_true, decide_eq_true_iff, ih, List.isChain_cons_cons, Knot.Below]

theorem acceptCalibration_eq_some_iff {points : List CalibPoint} {p : List Knot} :
    acceptCalibration points = some p ↔
      points = p.map Knot.asPoint ∧ 2 ≤ p.length ∧ p.length ≤ 2048 ∧ (∀ k ∈ p, k.x ≤ 2047) ∧ p.Pairwise Knot.Below := by
  constructor
  · intro h
    unfold acceptCalibration at h
    split_ifs at h with size
    split at h
    next q hq =>
      split_ifs at h with rising
      cases h
      obtain ⟨same, bounds⟩ := asPiece_eq_some_iff.mp hq
      have length := asPiece_length hq
      exact ⟨same, by omega, by omega, bounds, strictlyIncreasing_iff.mp rising⟩
    next => cases h
  · rintro ⟨same, low, high, bounds, rising⟩
    have piece := asPiece_eq_some_iff.mpr ⟨same, bounds⟩
    have length := asPiece_length piece
    rw [acceptCalibration, if_neg (by omega), piece]
    exact if_pos (strictlyIncreasing_iff.mpr rising)

theorem exec_calib_of_accepted {points : List CalibPoint} {p : List Knot} (h : acceptCalibration points = some p) (s : State) :
    exec (.calib points) s = answer .ok (installCalibration p s) := by
  show execCalib points s = _
  rw [execCalib, h]

theorem exec_calib_of_refused {points : List CalibPoint} (h : acceptCalibration points = none) (s : State) :
    exec (.calib points) s = raiseConfigError .calibration s := by
  show execCalib points s = _
  rw [execCalib, h]

/-- Settles O45. -/
theorem calibAcceptsIncreasingPoints : Obligations.CalibAcceptsIncreasingPoints := by
  intro points s asPoint good
  refine ⟨fun p accepted => exec_calib_of_accepted (acceptCalibration_eq_some_iff.mpr accepted) s, fun refused => ?_⟩
  refine exec_calib_of_refused (Option.eq_none_iff_forall_ne_some.mpr fun p accepted => refused ⟨p, ?_⟩) s
  exact acceptCalibration_eq_some_iff.mp accepted

end Sys2Proof.Machine
end

section
/-! PROOFS. SAMPLING (47_resampler.md R340 to R343) and the shape of the FIR tables (R347). -/

namespace Sys2Proof.Machine

open Sys2Proof.Claims

theorem truncRat_of_nonneg {r : Rat} (h : 0 ≤ r) : truncRat r = r.floor := if_neg (not_lt.mpr h)

/-! ## The checks of SAMPLING (R340) -/

theorem samplingRatio_eq {fc fs : Rat} (hfc : 0 < fc) (hfs : 0 < fs) :
    samplingRatio fc fs = (fc / fs * 65536 + 1 / 2).floor := truncRat_of_nonneg (by positivity)

theorem usesFir_iff {st : Strategy} : usesFir st = true ↔ st = .resampleInterpolate ∨ st = .resampleFast := by
  cases st <;> decide

theorem samplingChecked_iff {cfg : Cfg} {st : Strategy} :
    samplingChecked cfg st = true ↔ cfg.samplingChecksAll = true ∨ st = .resampleInterpolate ∨ st = .resampleFast := by
  rw [samplingChecked, Bool.or_eq_true, usesFir_iff]

theorem passbandTooHigh_iff {p : Passband} {fs : Rat} :
    passbandTooHigh p fs = true ↔ ¬∀ q, p = .hz q → q ≤ 9 / 10 * fs / 2 := by
  cases p with
  | auto => simp [passbandTooHigh]
  | hz q => simp [passbandTooHigh]

theorem positiveReal_finite {q : Rat} (h : 0 < q) : positiveReal (.finite q) = some q := if_pos h

theorem positiveReal_finite_of_le {q : Rat} (h : q ≤ 0) : positiveReal (.finite q) = none := if_neg (not_lt.mpr h)

section
variable {args : SamplingArgs} {s : State}

theorem exec_sampling_of_unusable (h : positiveReal args.chipClockHz = none ∨ positiveReal args.outputSampleHz = none) :
    exec (.sampling args) s = raiseConfigError .frequency s := by
  have refused : setSampling s.cfg args s.rs = .error .frequency := by
    unfold setSampling
    split
    next clock rate => rw [clock, rate] at h; simp at h
    next => rfl
  show execSampling args s = _
  rw [execSampling, refused]

variable {fc fs : Rat} (hclock : args.chipClockHz = .finite fc) (hrate : args.outputSampleHz = .finite fs) (hfc : 0 < fc) (hfs : 0 < fs)
include hclock hrate hfc hfs

theorem exec_sampling_of_failure {code : ConfigCode} (h : samplingFailure s.cfg args fc fs = some code) :
    exec (.sampling args) s = raiseConfigError code s := by
  have refused : setSampling s.cfg args s.rs = .error code := by
    rw [setSampling, hclock, hrate, positiveReal_finite hfc, positiveReal_finite hfs]
    simp only [h]
  show execSampling args s = _
  rw [execSampling, refused]

theorem exec_sampling_of_no_failure (h : samplingFailure s.cfg args fc fs = none) :
    exec (.sampling args) s = answer .ok (s.setRs (installSampling s.cfg args fc fs s.rs)) := by
  have accepted : setSampling s.cfg args s.rs = .ok (installSampling s.cfg args fc fs s.rs) := by
    rw [setSampling, hclock, hrate, positiveReal_finite hfc, positiveReal_finite hfs]
    simp only [h]
  show execSampling args s = _
  rw [execSampling, accepted]

end

/-- The ratio check of R340 passes. -/
def RatioOk (fc fs : Rat) : Prop := 1 ≤ (fc / fs * 65536 + 1 / 2).floor ∧ (fc / fs * 65536 + 1 / 2).floor ≤ 2 ^ 30

/-- The ring check of R340 passes. -/
def RingOk (cfg : Cfg) (fc fs : Rat) : Prop := cfg.firN * fc / fs < cfg.ringSize

/-- The passband check of R340 passes. -/
def PassOk (p : Passband) (fs : Rat) : Prop := ∀ q, p = .hz q → q ≤ 9 / 10 * fs / 2

/-- The last three checks of R340 apply. -/
def ChecksApply (cfg : Cfg) (st : Strategy) : Prop :=
  cfg.samplingChecksAll = true ∨ st = .resampleInterpolate ∨ st = .resampleFast

section
variable {cfg : Cfg} {args : SamplingArgs} {fc fs : Rat} (hfc : 0 < fc) (hfs : 0 < fs)
include hfc hfs

theorem ratio_out_of_range_iff : samplingRatio fc fs < 1 ∨ 2 ^ 30 < samplingRatio fc fs ↔ ¬RatioOk fc fs := by
  rw [samplingRatio_eq hfc hfs, RatioOk, not_and_or, not_le, not_le]

theorem samplingFailure_of_ratio (ratio : ¬RatioOk fc fs) : samplingFailure cfg args fc fs = some .frequency := by
  simp only [samplingFailure]
  exact if_pos ((ratio_out_of_range_iff hfc hfs).mpr ratio)

variable (ratio : RatioOk fc fs)
include ratio

theorem samplingFailure_of_ring (apply : ChecksApply cfg args.strategy) (ring : ¬RingOk cfg fc fs) :
    samplingFailure cfg args fc fs = some .ringOverflow := by
  simp only [samplingFailure]
  rw [if_neg fun bad => (ratio_out_of_range_iff hfc hfs).mp bad ratio, if_pos ⟨samplingChecked_iff.mpr apply, not_lt.mp ring⟩]

theorem samplingFailure_of_pass (apply : ChecksApply cfg args.strategy) (ring : RingOk cfg fc fs)
    (pass : ¬PassOk args.passbandHz fs) : samplingFailure cfg args fc fs = some .passband := by
  simp only [samplingFailure]
  rw [if_neg fun bad => (ratio_out_of_range_iff hfc hfs).mp bad ratio, if_neg fun bad => absurd ring (not_lt.mpr bad.2),
    if_pos ⟨samplingChecked_iff.mpr apply, passbandTooHigh_iff.mpr pass⟩]

theorem samplingFailure_of_scale (apply : ChecksApply cfg args.strategy) (ring : RingOk cfg fc fs)
    (pass : PassOk args.passbandHz fs) (scale : args.filterScale < 9 / 10 ∨ 1 < args.filterScale) :
    samplingFailure cfg args fc fs = some .filterScale := by
  simp only [samplingFailure]
  rw [if_neg fun bad => (ratio_out_of_range_iff hfc hfs).mp bad ratio, if_neg fun bad => absurd ring (not_lt.mpr bad.2),
    if_neg fun bad => passbandTooHigh_iff.mp bad.2 pass, if_pos ⟨samplingChecked_iff.mpr apply, scale⟩]

theorem samplingFailure_eq_none (checks : ChecksApply cfg args.strategy →
      RingOk cfg fc fs ∧ PassOk args.passbandHz fs ∧ 9 / 10 ≤ args.filterScale ∧ args.filterScale ≤ 1) :
    samplingFailure cfg args fc fs = none := by
  have checks (checked : samplingChecked cfg args.strategy = true) := checks (samplingChecked_iff.mp checked)
  simp only [samplingFailure]
  rw [if_neg fun bad => (ratio_out_of_range_iff hfc hfs).mp bad ratio,
    if_neg fun ⟨checked, bad⟩ => by obtain ⟨ring, -⟩ := checks checked; exact not_lt.mpr bad ring,
    if_neg fun ⟨checked, bad⟩ => by obtain ⟨-, pass, -⟩ := checks checked; exact passbandTooHigh_iff.mp bad pass,
    if_neg fun ⟨checked, bad⟩ => by
      obtain ⟨-, -, low, high⟩ := checks checked
      exact bad.elim (not_lt.mpr low) (not_lt.mpr high)]

end

/-- Settles O43. -/
theorem samplingReportsTheFirstFailure : Obligations.SamplingReportsTheFirstFailure := by
  intro args s fail checked
  refine ⟨fun h => ?_, fun fc fs hclock hrate => ?_⟩
  · refine exec_sampling_of_unusable (h.imp (fun h => ?_) (fun h => ?_)) <;> rw [h] <;> rfl
  intro c ratioOk ringOk passOk
  have report {code : ConfigCode} (hfc : 0 < fc) (hfs : 0 < fs) (h : samplingFailure s.cfg args fc fs = some code) : fail code :=
    exec_sampling_of_failure hclock hrate hfc hfs h
  refine ⟨fun h => ?_, fun hfc hfs ratio => report hfc hfs (samplingFailure_of_ratio hfc hfs ratio),
    fun hfc hfs ratio apply ring => report hfc hfs (samplingFailure_of_ring hfc hfs ratio apply ring),
    fun hfc hfs ratio apply ring pass => report hfc hfs (samplingFailure_of_pass hfc hfs ratio apply ring pass),
    fun hfc hfs ratio apply ring pass scale => report hfc hfs (samplingFailure_of_scale hfc hfs ratio apply ring pass scale)⟩
  exact exec_sampling_of_unusable <|
    h.imp (fun h => hclock ▸ positiveReal_finite_of_le h) (fun h => hrate ▸ positiveReal_finite_of_le h)

/-! ## What a successful SAMPLING installs -/

theorem passbandOf_auto (fs : Rat) : passbandOf .auto fs = if 9 / 10 ≤ 40000 / fs then 9 / 20 * fs else 20000 := by
  have bound : (2 : Rat) * 20000 = 40000 := by norm_num
  have half : 9 / 10 * fs / 2 = 9 / 20 * fs := by ring
  rw [passbandOf, bound, half]

theorem installSampling_eq (cfg : Cfg) (args : SamplingArgs) (fc fs : Rat) (rs : Resampler) :
    installSampling cfg args fc fs rs =
      if args.strategy = .resampleInterpolate ∨ args.strategy = .resampleFast then
        ({ rs with
          strategy := args.strategy
          cyclesPerSample := wrap32 (samplingRatio fc fs)
          sampleOffset := 0
          samplePrev := 0 } : Resampler).rebuildFir cfg
            { chipClockHz := fc, outputSampleHz := fs, passbandHz := passbandOf args.passbandHz fs,
              filterScale := args.filterScale, strategy := args.strategy, shift := cfg.firShift }
      else { rs with
        strategy := args.strategy
        cyclesPerSample := wrap32 (samplingRatio fc fs)
        sampleOffset := 0
        samplePrev := 0 } := by
  simp only [installSampling]
  exact if_congr usesFir_iff rfl rfl

/-- Settles O42. -/
theorem samplingInstallsTheRatio : Obligations.SamplingInstallsTheRatio := by
  intro args fc fs s hclock hrate hfc hfs ratio checks pass design base
  have accepted : samplingFailure s.cfg args fc fs = none := by
    refine samplingFailure_eq_none hfc hfs ratio fun apply => ?_
    obtain ⟨ring, passband, scale⟩ := checks apply
    refine ⟨ring, fun q hq => ?_, scale⟩
    obtain auto | ⟨q', hq', le⟩ := passband
    · rw [auto] at hq; cases hq
    · rw [hq'] at hq; cases hq; exact le
  have pass_eq : passbandOf args.passbandHz fs = pass := by
    cases h : args.passbandHz with
    | auto => simp only [pass, h, passbandOf_auto]
    | hz q => simp only [pass, h, passbandOf]
  rw [exec_sampling_of_no_failure hclock hrate hfc hfs accepted, installSampling_eq, samplingRatio_eq hfc hfs, pass_eq]
  rfl

end Sys2Proof.Machine
end

section
/-! PROOFS. The shape of the FIR tables (47_resampler.md R347). -/

namespace Sys2Proof.Machine

open Sys2Proof.Claims

/-! ## The length -/

theorem firLength_odd (d : FirDesign) : firLength d % 2 = 1 := by
  simp only [firLength]
  split_ifs <;> omega

theorem firLength_le (d : FirDesign) : firLength d ≤ (truncRat (firOrder d * firCps d)).toNat + 2 := by
  simp only [firLength]
  split_ifs <;> omega

/-- A passband of at most 0.9 of the half sample rate leaves a transition band of at least a tenth of it. -/
theorem firPassRatio_le {d : FirDesign} (rate : 0 < d.outputSampleHz) (pass : d.passbandHz ≤ 9 / 10 * d.outputSampleHz / 2) :
    firPassRatio d ≤ 9 / 10 := by
  rw [firPassRatio, div_le_iff₀ rate]
  linarith

theorem piApprox_pos : 0 < piApprox := by
  rw [piApprox, piNumerator, piDenominator]
  norm_num

/-- R347's quotient for the order, with a transition band of w half sample rates. -/
theorem orderQuotient_bounds {w : Rat} (wide : 1 / 10 ≤ w) :
    0 ≤ (attenuation - 795 / 100) / (2285 / 1000 * (w * piApprox)) + 1 / 2 ∧
    (attenuation - 795 / 100) / (2285 / 1000 * (w * piApprox)) + 1 / 2 < 124 := by
  have band : (2285 / 1000 : Rat) * (1 / 10 * piApprox) ≤ 2285 / 1000 * (w * piApprox) := by
    have pi_nonneg := piApprox_pos.le
    gcongr
  have pos : (0 : Rat) < 2285 / 1000 * (1 / 10 * piApprox) := by
    have pi_pos := piApprox_pos
    positivity
  have num : (0 : Rat) ≤ attenuation - 795 / 100 := by rw [attenuation]; norm_num
  have least : attenuation - 795 / 100 < (124 - 1 / 2) * (2285 / 1000 * (1 / 10 * piApprox)) := by
    rw [attenuation, piApprox, piNumerator, piDenominator]; norm_num
  refine ⟨by have := div_nonneg num (pos.le.trans band); linarith, ?_⟩
  have quotient : (attenuation - 795 / 100) / (2285 / 1000 * (w * piApprox)) < 124 - 1 / 2 :=
    (div_lt_iff₀ (pos.trans_le band)).mpr (least.trans_le (by gcongr))
  linarith

theorem firOrder_le {d : FirDesign} (rate : 0 < d.outputSampleHz) (pass : d.passbandHz ≤ 9 / 10 * d.outputSampleHz / 2) :
    firOrder d ≤ 124 := by
  obtain ⟨low, high⟩ := orderQuotient_bounds (w := 1 - firPassRatio d) (by linarith [firPassRatio_le rate pass])
  have order : truncRat ((attenuation - 795 / 100) / (2285 / 1000 * ((1 - firPassRatio d) * piApprox)) + 1 / 2) < 124 := by
    rw [truncRat_of_nonneg low]
    exact Rat.floor_lt_iff.mpr high
  simp only [firOrder]
  split_ifs <;> omega

theorem firLength_le_of_order {d : FirDesign} (clock : 0 < d.chipClockHz) (rate : 0 < d.outputSampleHz)
    (pass : d.passbandHz ≤ 9 / 10 * d.outputSampleHz / 2) :
    (firLength d : Rat) ≤ 124 * (d.chipClockHz / d.outputSampleHz) + 2 := by
  have cps : 0 < firCps d := div_pos clock rate
  have order : (firOrder d : Rat) ≤ 124 := by exact_mod_cast firOrder_le rate pass
  have cycles : (0 : Rat) ≤ firOrder d * firCps d := by positivity
  have length : (firLength d : Rat) ≤ (truncRat (firOrder d * firCps d)).toNat + 2 := by exact_mod_cast firLength_le d
  have whole : ((truncRat (firOrder d * firCps d)).toNat : Rat) ≤ firOrder d * firCps d := by
    rw [truncRat_of_nonneg cycles, ← Int.cast_natCast, Int.toNat_of_nonneg (Rat.le_floor_iff.mpr (by exact_mod_cast cycles))]
    exact Rat.floor_le _
  calc (firLength d : Rat) ≤ (truncRat (firOrder d * firCps d)).toNat + 2 := length
    _ ≤ firOrder d * firCps d + 2 := by gcongr
    _ ≤ 124 * firCps d + 2 := by gcongr

/-! ## The number of tables -/

theorem powerOfTwoAbove_spec (m : Nat) :
    ∃ k, powerOfTwoAbove m = 2 ^ k ∧ m ≤ 2 ^ k ∧ (k ≠ 0 → 2 ^ (k - 1) < m) := by
  unfold powerOfTwoAbove
  split_ifs with small
  · exact ⟨0, rfl, by omega, fun h => absurd rfl h⟩
  · refine ⟨Nat.log2 (m - 1) + 1, rfl, ?_, fun _ => ?_⟩
    · have := Nat.lt_log2_self (n := m - 1)
      omega
    · have := Nat.log2_self_le (n := m - 1) (by omega)
      rw [Nat.add_sub_cancel]
      omega

theorem ceil_toNat_le_iff {x : Rat} {k : Nat} : x.ceil.toNat ≤ k ↔ x ≤ k := by
  rw [Int.toNat_le, Rat.ceil_le_iff, Int.cast_natCast]

/-- Settles O44. -/
theorem firTablesHaveTheirShape : Obligations.FirTablesHaveTheirShape := by
  intro cfg d clock rate pass
  refine ⟨firLength_odd d, firLength_le_of_order clock rate pass, ?_⟩
  have ratio : (firResolution cfg d.strategy : Rat) / firCps d =
      firResolution cfg d.strategy * d.outputSampleHz / d.chipClockHz := by
    rw [firCps, div_div_eq_mul_div]
  obtain ⟨k, tables, above, least⟩ := powerOfTwoAbove_spec ((firResolution cfg d.strategy : Rat) / firCps d).ceil.toNat
  rw [← ratio]
  refine ⟨k, tables, ?_, fun nonzero => ?_⟩
  · exact_mod_cast ceil_toNat_le_iff.mp above
  · have below := not_le.mp (mt ceil_toNat_le_iff.mpr (not_le.mpr (least nonzero)))
    exact_mod_cast below

end Sys2Proof.Machine
end

section
/-! PROOFS. The cutoff table and the angular frequency (44_filter.md R245, R262). -/

namespace Sys2Proof.Machine

open Sys2Proof.Claims

/-! ## One cubic of the spline -/

theorem hermite_left (a b : Knot) (ka kb : Rat) : hermite a b ka kb a.x = a.y := by
  simp [hermite]

theorem cast_sub_ne_zero {a b : Knot} (h : a.x < b.x) : (b.x : Rat) - a.x ≠ 0 :=
  sub_ne_zero.mpr (Nat.cast_injective.ne h.ne')

theorem hermite_right {a b : Knot} (h : a.x < b.x) (ka kb : Rat) : hermite a b ka kb b.x = b.y := by
  simp only [hermite]
  rw [div_self (cast_sub_ne_zero h)]
  ring

/-- With the slope of the chord at both ends the cubic is the chord. -/
theorem hermite_chord {a b : Knot} (h : a.x < b.x) (c : Nat) :
    hermite a b (chord a b) (chord a b) c = a.y + chord a b * ((c : Rat) - a.x) := by
  have width := cast_sub_ne_zero h
  simp only [hermite, chord]
  field_simp
  ring

/-! ## The pieces -/

/-- The control values of a piece increase strictly. -/
def RisingKnots (p : List Knot) : Prop := p.Pairwise fun a b => a.x < b.x

theorem rising_of_risingControls {p : List Knot} (h : risingControls p = true) : RisingKnots p := by
  have trans : IsTrans Knot fun a b => a.x < b.x := ⟨fun _ _ _ => lt_trans⟩
  rw [RisingKnots, ← List.isChain_iff_pairwise]
  induction p with
  | nil => exact .nil
  | cons a rest ih =>
    cases rest with
    | nil => exact .singleton a
    | cons b rest =>
      rw [risingControls, Bool.and_eq_true, decide_eq_true_iff] at h
      exact List.isChain_cons_cons.mpr ⟨h.1, ih h.2⟩

theorem pieceInv_iff {p : List Knot} : pieceInv p = true ↔ 2 ≤ p.length ∧ risingControls p = true := by
  rw [pieceInv, Bool.and_eq_true, decide_eq_true_iff]

theorem knotAt_eq_getElem {p : List Knot} {i : Nat} (h : i < p.length) : knotAt p i = p[i] := by
  rw [knotAt, List.getD_eq_getElem _ _ h]

theorem RisingKnots.lt {p : List Knot} (rising : RisingKnots p) {i j : Nat} (hij : i < j) (hj : j < p.length) :
    (knotAt p i).x < (knotAt p j).x := by
  rw [knotAt_eq_getElem (hij.trans hj), knotAt_eq_getElem hj]
  exact List.pairwise_iff_getElem.mp rising i j (hij.trans hj) hj hij

theorem RisingKnots.le {p : List Knot} (rising : RisingKnots p) {i j : Nat} (hij : i ≤ j) (hj : j < p.length) :
    (knotAt p i).x ≤ (knotAt p j).x := by
  obtain rfl | lt := hij.eq_or_lt
  · exact le_rfl
  · exact (rising.lt lt hj).le

/-- The interval that holds c, unless c is its left end: then the one before it, where there is one. -/
theorem segmentIndex_eq {p : List Knot} (rising : RisingKnots p) {i c : Nat} (hi : i + 1 < p.length)
    (left : i = 0 ∨ (knotAt p i).x < c) (right : c ≤ (knotAt p (i + 1)).x) : segmentIndex p c = i := by
  induction p generalizing i with
  | nil => exact absurd hi (Nat.not_lt_zero _)
  | cons a rest ih =>
    cases rest with
    | nil => exact absurd hi (by simp)
    | cons b rest =>
      cases i with
      | zero => exact if_pos right
      | succ i =>
        have above : (knotAt (a :: b :: rest) (i + 1)).x < c := left.resolve_left i.succ_ne_zero
        have second : b.x ≤ (knotAt (a :: b :: rest) (i + 1)).x := rising.le (i := 1) (by omega) (by omega)
        have later : segmentIndex (b :: rest) c = i :=
          ih rising.of_cons (by simpa using hi) (.inr above) right
        rw [segmentIndex, if_neg (by omega), later]

/-- On its interval the piece is its cubic. -/
theorem splineAt_eq {p : List Knot} (rising : RisingKnots p) {i c : Nat} (hi : i + 1 < p.length) (left : (knotAt p i).x ≤ c)
    (right : c ≤ (knotAt p (i + 1)).x) :
    splineAt p c = hermite (knotAt p i) (knotAt p (i + 1)) (knotSlope p i) (knotSlope p (i + 1)) c := by
  simp only [splineAt]
  by_cases inside : i = 0 ∨ (knotAt p i).x < c
  · rw [segmentIndex_eq rising hi inside right]
  · obtain ⟨nonzero, not_above⟩ := not_or.mp inside
    obtain ⟨j, rfl⟩ := Nat.exists_eq_succ_of_ne_zero nonzero
    obtain rfl : c = (knotAt p (j + 1)).x := le_antisymm (not_lt.mp not_above) left
    have before : (knotAt p j).x < (knotAt p (j + 1)).x := rising.lt j.lt_succ_self (by omega)
    rw [segmentIndex_eq rising (i := j) (by omega) (.inr before) le_rfl, hermite_left]
    exact hermite_right before _ _

theorem splineAt_knot {p : List Knot} (rising : RisingKnots p) (two : 2 ≤ p.length) {k : Knot} (h : k ∈ p) : splineAt p k.x = k.y := by
  obtain ⟨i, hi, rfl⟩ := List.getElem_of_mem h
  rw [← knotAt_eq_getElem hi]
  by_cases last : i + 1 < p.length
  · rw [splineAt_eq rising last le_rfl (rising.le (by omega) last), hermite_left]
  · obtain ⟨j, rfl⟩ := Nat.exists_eq_succ_of_ne_zero (show i ≠ 0 by omega)
    have before : (knotAt p j).x < (knotAt p (j + 1)).x := rising.lt j.lt_succ_self hi
    rw [splineAt_eq rising hi before.le le_rfl, hermite_right before]

/-! ## The slopes -/

theorem knotSlope_interior {p : List Knot} {i : Nat} (pos : 0 < i) (hi : i + 1 < p.length) : knotSlope p i = interiorSlope p i := by
  simp only [knotSlope]
  rw [if_neg (by omega), if_neg (by omega), if_neg (by omega)]

theorem knotSlope_of_two {p : List Knot} (two : p.length = 2) (i : Nat) : knotSlope p i = chordSlope p 0 := if_pos two

theorem knotSlope_first {p : List Knot} (long : 3 ≤ p.length) :
    knotSlope p 0 = (3 * chordSlope p 0 - interiorSlope p 1) / 2 := by
  simp only [knotSlope]
  rw [if_neg (by omega), if_pos trivial]

theorem knotSlope_last {p : List Knot} (long : 3 ≤ p.length) :
    knotSlope p (p.length - 1) = (3 * chordSlope p (p.length - 2) - interiorSlope p (p.length - 2)) / 2 := by
  simp only [knotSlope]
  rw [if_neg (by omega), if_neg (by omega), if_pos trivial]

/-- The second derivative is 0 at the first point. -/
theorem natural_first {p : List Knot} (two : 2 ≤ p.length) : 2 * knotSlope p 0 + knotSlope p 1 = 3 * chordSlope p 0 := by
  obtain short | long := two.eq_or_lt
  · rw [knotSlope_of_two short.symm, knotSlope_of_two short.symm]
    ring
  · rw [knotSlope_first long, knotSlope_interior one_pos long]
    ring

/-- The second derivative is 0 at the last point. -/
theorem natural_last {p : List Knot} (two : 2 ≤ p.length) :
    2 * knotSlope p (p.length - 1) + knotSlope p (p.length - 2) = 3 * chordSlope p (p.length - 2) := by
  obtain short | long := two.eq_or_lt
  · rw [knotSlope_of_two short.symm, knotSlope_of_two short.symm, ← short]
    ring
  · rw [knotSlope_last long, knotSlope_interior (i := p.length - 2) (by omega) (by omega)]
    ring

/-! ## The table -/

theorem clampHz_eq (f : Rat) : (clampHz f : Int) = (max 0 f).floor := by
  rw [clampHz]
  split_ifs with low
  · rw [max_eq_left low]; rfl
  · have pos := (not_le.mp low).le
    rw [max_eq_right pos, Int.toNat_of_nonneg (Rat.le_floor_iff.mpr (by exact_mod_cast pos))]

theorem clampHz_natCast (n : Nat) : clampHz n = n := by
  have whole : (clampHz (n : Rat) : Int) = n := by
    rw [clampHz_eq, max_eq_right (Nat.cast_nonneg n)]
    exact Rat.floor_intCast n
  exact_mod_cast whole

theorem pieceCovers_iff {c : Nat} {p : List Knot} : pieceCovers c p = true ↔ liesIn c p ∧ 2 ≤ p.length := by
  rw [pieceCovers, Bool.and_eq_true, Bool.and_eq_true, decide_eq_true_iff, decide_eq_true_iff, decide_eq_true_iff]
  rfl

theorem cutoffF0_of_find {m : ChipModel} {cal : Calibration} {c : Nat} {p : List Knot}
    (h : cal.pieces.find? (pieceCovers c) = some p) : cutoffF0 m cal c = clampHz (splineAt p c) := by
  rw [cutoffF0, h]

theorem cutoffF0_of_one {p : List Knot} {c : Nat} (covers : pieceCovers c p = true) (m : ChipModel) (n : Nat) :
    cutoffF0 m { pieces := [p], install := n } c = clampHz (splineAt p c) :=
  cutoffF0_of_find (List.find?_cons_of_pos covers)

theorem pieceCovers_of_interval {p : List Knot} (rising : RisingKnots p) {i c : Nat} (hi : i + 1 < p.length)
    (left : (knotAt p i).x ≤ c) (right : c ≤ (knotAt p (i + 1)).x) : pieceCovers c p = true :=
  pieceCovers_iff.mpr ⟨⟨(rising.le (Nat.zero_le i) (by omega)).trans left, right.trans (rising.le (by omega) (by omega))⟩, by omega⟩

theorem pieceCovers_knot {p : List Knot} (rising : RisingKnots p) (two : 2 ≤ p.length) {k : Knot} (h : k ∈ p) :
    pieceCovers k.x p = true := by
  obtain ⟨i, hi, rfl⟩ := List.getElem_of_mem h
  rw [← knotAt_eq_getElem hi]
  exact pieceCovers_iff.mpr ⟨⟨rising.le (Nat.zero_le i) hi, rising.le (by omega) (by omega)⟩, two⟩

/-- Two points: the straight line between them, truncated. -/
theorem cutoffF0_line {a b : Knot} {c : Nat} (hx : a.x < b.x) (hy : a.y ≤ b.y) (left : a.x ≤ c) (right : c ≤ b.x) (m : ChipModel)
    (n : Nat) : cutoffF0 m { pieces := [[a, b]], install := n } c = a.y + (b.y - a.y) * (c - a.x) / (b.x - a.x) := by
  have rising : RisingKnots [a, b] := by simpa [RisingKnots] using hx
  have width : 0 < b.x - a.x := by omega
  have two : 0 + 1 < [a, b].length := Nat.one_lt_two
  have line : splineAt [a, b] c = ((a.y * (b.x - a.x) + (b.y - a.y) * (c - a.x) : Nat) : Rat) / (b.x - a.x : Nat) := by
    have slope (i : Nat) : knotSlope [a, b] i = chord a b := knotSlope_of_two rfl i
    have width_ne := cast_sub_ne_zero hx
    rw [splineAt_eq rising two left right, slope, slope]
    refine (hermite_chord hx c).trans ?_
    push_cast [Nat.cast_sub hx.le, Nat.cast_sub hy, Nat.cast_sub left]
    rw [chord]
    field_simp
  rw [cutoffF0_of_one (pieceCovers_of_interval rising two left right), ← Nat.cast_inj (R := Int), clampHz_eq, line,
    max_eq_right (by positivity)]
  refine (Rat.floor_natCast_div_natCast _ _).trans ?_
  rw [← Int.natCast_ediv, Nat.add_div_of_dvd_right (Nat.dvd_mul_left _ _), Nat.mul_div_cancel _ width]

/-- The one piece that holds c counts. -/
theorem cutoffF0_of_disjoint {cal : Calibration} {p : List Knot} {c : Nat} (inv : ∀ q ∈ cal.pieces, pieceInv q = true)
    (disjoint : cal.pieces.Pairwise fun a b => ∀ x, ¬(liesIn x a ∧ liesIn x b)) (mem : p ∈ cal.pieces) (lies : liesIn c p)
    (m : ChipModel) (n : Nat) : cutoffF0 m cal c = cutoffF0 m { pieces := [p], install := n } c := by
  have covers : pieceCovers c p = true := pieceCovers_iff.mpr ⟨lies, (pieceInv_iff.mp (inv p mem)).1⟩
  obtain ⟨q, found⟩ := Option.isSome_iff_exists.mp (List.find?_isSome.mpr ⟨p, mem, covers⟩)
  have q_lies : liesIn c q := (pieceCovers_iff.mp (List.find?_some found)).1
  have same : q = p := by
    have symm : Std.Symm fun a b : List Knot => ∀ x, ¬(liesIn x a ∧ liesIn x b) := ⟨fun _ _ h x both => h x both.symm⟩
    by_contra differ
    exact disjoint.forall (List.mem_of_find?_eq_some found) mem differ c ⟨q_lies, lies⟩
  rw [cutoffF0_of_find (same ▸ found), cutoffF0_of_one covers]

/-! ## The angular frequency (R245) -/

theorem truncRat_spec_of_nonneg {r : Rat} (h : 0 ≤ r) :
    0 ≤ (truncRat r : Rat) ∧ (truncRat r : Rat) ≤ r ∧ r < truncRat r + 1 := by
  rw [truncRat_of_nonneg h]
  refine ⟨?_, Rat.floor_le r, by exact_mod_cast Rat.lt_floor_add_one r⟩
  exact_mod_cast Rat.le_floor_iff.mpr (by exact_mod_cast h)

theorem truncRat_neg (r : Rat) : truncRat (-r) = -truncRat r := by
  obtain neg | rfl | pos := lt_trichotomy r 0
  · rw [truncRat, if_neg (by linarith), truncRat, if_pos neg, neg_neg]
  · rfl
  · rw [truncRat, if_pos (by linarith), truncRat_of_nonneg pos.le, neg_neg]

/-- Truncation goes toward zero, by less than 1. -/
theorem truncRat_spec (r : Rat) :
    0 ≤ (truncRat r : Rat) * r ∧ |(truncRat r : Rat)| ≤ |r| ∧ |r| < |(truncRat r : Rat)| + 1 := by
  obtain nonneg | neg := le_or_gt 0 r
  · obtain ⟨sign, le, lt⟩ := truncRat_spec_of_nonneg nonneg
    rw [abs_of_nonneg nonneg, abs_of_nonneg sign]
    exact ⟨mul_nonneg sign nonneg, le, lt⟩
  · have pos : 0 ≤ -r := by linarith
    obtain ⟨sign, le, lt⟩ := truncRat_spec_of_nonneg pos
    rw [truncRat_neg, Int.cast_neg] at sign le lt
    rw [abs_of_neg neg, abs_of_nonpos (neg_nonneg.mp sign)]
    exact ⟨mul_nonneg_of_nonpos_of_nonpos (neg_nonneg.mp sign) neg.le, le, lt⟩

theorem pi60_eq : pi60 = piApprox := by
  rw [pi60, piApprox, piNumerator, piDenominator]
  norm_num

/-- With a scale that is not negative the ceiling is all that bounds `w0`. -/
theorem toInt_ofInt_min {w : Int} (h : 0 ≤ w) (ceiling : S32) : (BitVec.ofInt 32 (min w ceiling.toInt)).toInt = min w ceiling.toInt := by
  have low := BitVec.le_toInt (x := ceiling)
  have high := BitVec.toInt_lt (x := ceiling)
  exact toInt_wrap32_of_range (by omega) (by omega)

theorem w0_nonneg {s : State} (scale : 0 ≤ s.cfg.w0Scale) : 0 ≤ w0 s := by
  have pi_pos := piApprox_pos
  have angle : 0 ≤ 2 * piApprox * cutoffF0 s.chip.chipModel (perModel s.calib s.chip.chipModel) s.filt.cutoff.toNat *
      s.cfg.w0Scale := by positivity
  rw [w0, w0OfHz]
  exact_mod_cast (truncRat_spec_of_nonneg angle).1

/-- Settles O38. -/
theorem cutoffTablePassesThroughThePoints : Obligations.CutoffTablePassesThroughThePoints := by
  refine ⟨fun m p n k inv mem => ?_, fun m a b n c hx hy left right => cutoffF0_line hx hy left right m n, fun p inv => ?_,
    fun m cal p n c inv disjoint mem lies => cutoffF0_of_disjoint inv disjoint mem lies m n, fun s => ?_, fun s scale => ?_⟩
  · obtain ⟨two, controls⟩ := pieceInv_iff.mp inv
    have rising := rising_of_risingControls controls
    rw [cutoffF0_of_one (pieceCovers_knot rising two mem), splineAt_knot rising two mem, clampHz_natCast]
  · obtain ⟨two, controls⟩ := pieceInv_iff.mp inv
    have rising := rising_of_risingControls controls
    refine ⟨knotSlope p, fun i pos hi => knotSlope_interior pos hi, fun length => ⟨knotSlope_of_two length 0, knotSlope_of_two length 1⟩,
      natural_first two, ?_, fun m n i c hi left right => ?_⟩
    · have last : chordSlope p (p.length - 2) = slopeBetween p (p.length - 2) (p.length - 1) := by
        rw [show p.length - 1 = p.length - 2 + 1 by omega]
        rfl
      rw [← last]
      exact natural_last two
    · rw [cutoffF0_of_one (pieceCovers_of_interval rising hi left right), clampHz_eq, splineAt_eq rising hi left right]
      rfl
  · rw [pi60_eq]
    exact truncRat_spec _
  · exact ⟨toInt_ofInt_min (w0_nonneg scale) _, toInt_ofInt_min (w0_nonneg scale) _⟩

end Sys2Proof.Machine
end
